-- ==== Sys2Proof/Word.lean ====
section
/-! DEFINITION. The widths of the engine's values, its two channels, and a pair of like things, one per channel. -/

namespace Sys2Proof

/-- A register or descriptor word: 32-bit unsigned (00_scope.md R11). -/
abbrev Word := BitVec 32

/-- An address: held in a 64-bit container (00_scope.md R11). -/
abbrev Addr := BitVec 64

/-- One byte of physical memory or of a stream. -/
abbrev Byte := BitVec 8

/-- An operation word (30_encoding.md R140). -/
abbrev OpWord := BitVec 16

/-- The two channels: channel 0 is TX, channel 1 is RX (00_scope.md R2, R3). -/
inductive Chan
  | tx
  | rx
  deriving DecidableEq, Repr

/-- One value for each channel. -/
structure Pair (α : Type) where
  tx : α
  rx : α
  deriving DecidableEq, Repr

def Pair.get {α : Type} (p : Pair α) : Chan → α
  | .tx => p.tx
  | .rx => p.rx

def Pair.set {α : Type} (p : Pair α) (c : Chan) (v : α) : Pair α :=
  match c with
  | .tx => { p with tx := v }
  | .rx => { p with rx := v }

end Sys2Proof
end

