-- ==== Sys2Proof/Config.lean ====
section
/-! DEFINITION. The implementation parameters (00_scope.md R9), and the choices no rule makes: the free values. -/

namespace Sys2Proof

/-- P_CACHE_MODE (00_scope.md R9, 20_memory.md R125). -/
inductive CacheMode
  | coherent
  | noncoherent
  deriving DecidableEq, Repr

/-- P_CS_MODE, the critical-section granularity (00_scope.md R9, 41_host_primitives.md R228). -/
inductive CsMode
  | global
  | bothLines
  | channelLine
  deriving DecidableEq, Repr

/-- A response of the platform bus (20_memory.md R111). -/
inductive BusResp
  | okay
  | slverr
  | decerr
  deriving DecidableEq, Repr

/-- Which accesses a bus rule speaks of. -/
inductive BusDir
  | read
  | write
  | both
  deriving DecidableEq, Repr

/-- The accesses a bus rule speaks of: those that touch a byte of `lo..hi`, or those that start in `lo..hi` with
a byte count in `nLo..nHi`. Lists of the second kind give every total function of (address, count, direction). -/
inductive BusMatch
  | touches (lo hi : Nat)
  | starts (lo hi nLo nHi : Nat)
  deriving DecidableEq, Repr

/-- One line of the platform's answer P_BUS, as plain data (log entry 6). -/
structure BusRule where
  sel : BusMatch
  dir : BusDir
  resp : BusResp
  deriving DecidableEq, Repr

/-- P_LEN_BITS = 26, the width of the two length fields (00_scope.md R9). -/
abbrev lenBits : Nat := 26

/-- P_DESC_ALIGN = 64, the descriptor alignment and stride (00_scope.md R9). -/
abbrev descStride : Nat := 64

/-- The parameters of 00_scope.md R9. P_LEN_BITS and P_DESC_ALIGN are constants; P_RESET_SLEEP is not modelled as
time. `bufs` is the platform's buffer placement (base, size), which R10 keeps apart from the rings (log entry 24). -/
structure Params where
  base : Addr
  addrBits : Nat
  cap : Pair Nat
  ring : Pair Addr
  cacheMode : CacheMode
  descUncached : Bool
  line : Nat
  csMode : CsMode
  irqThreshold : Nat
  irqDelay : Nat
  resetRetries : Nat
  irq : Pair Nat
  channels : Nat
  nestedIrq : Bool
  linkedNoCsum : Int
  linkedFullCsum : Int
  app0CsumFull : Word
  csumWord : Nat
  fcsErr : Word
  ipErr : Word
  udpErr : Word
  tcpErr : Word
  bus : List BusRule
  resFault : Int
  bufs : List (Nat × Nat)
  deriving DecidableEq, Repr

/-- The common parameters of 95_test_vectors.md section 1. DESIGN CHOICE (log entry 5) for the values that table
calls "any": P_BASE = 0, P_IRQ_TX = 0, P_IRQ_RX = 1, P_LINE = 64, P_DESC_UNCACHED = true. -/
def Params.vectors : Params where
  base := 0
  addrBits := 32
  cap := ⟨4, 4⟩
  ring := ⟨0x00010000, 0x00011000⟩
  cacheMode := .coherent
  descUncached := true
  line := 64
  csMode := .channelLine
  irqThreshold := 1
  irqDelay := 0
  resetRetries := 3
  irq := ⟨0, 1⟩
  channels := 2
  nestedIrq := true
  linkedNoCsum := 0
  linkedFullCsum := 1
  app0CsumFull := 0x00000002
  csumWord := 2
  fcsErr := 0x00000100
  ipErr := 0x00000008
  udpErr := 0x00000010
  tcpErr := 0x00000020
  bus := [⟨.touches 0xF0000000 0xFFFFFFFF, .both, .decerr⟩]
  resFault := -5
  bufs := [(0x20000, 0x10000), (0x30000, 0x10000)]

namespace Config

/-- The k-th draw that the run's own list does not give (00_scope.md R12 "draw"): free, nothing constrains it
(log entry 2). -/
opaque freeDraw : Nat → Nat

/-- The k-th choice of which agent moves next that the run's own list does not give (00_scope.md R8): free
(log entry 1). -/
opaque freeTurn : Nat → Nat

end Config

end Sys2Proof
end

