-- ==== Sys2Proof/Syntax.lean ====
section
/-! DEFINITION. The operations of the model: one constructor per row of spec/opcode_table.json, with the operands
that travel beside the operation word (30_encoding.md R147). -/

namespace Sys2Proof

/-- A critical-section key: the prior mask state that CS_ENTER saves (41_host_primitives.md R228). -/
inductive Key
  | global (gie : Bool)
  | both (tx rx : Bool)
  | line (l : Nat) (en : Bool)
  deriving DecidableEq, Repr

/-- What a callback is told: RES_OK or RES_FAULT (60_exceptions.md R405). -/
inductive CbResult
  | ok
  | fault
  deriving DecidableEq, Repr

/-- The direction of a configuration request (46_configure.md R364). -/
inductive Direction
  | memToPeriph
  | periphToMem
  | other
  deriving DecidableEq, Repr

/-- The address-adjustment modes (46_configure.md R364). -/
inductive Adjust
  | increment
  | noChange
  | decrement
  deriving DecidableEq, Repr

/-- One block of a request: source, destination, size in bytes (46_configure.md R364). -/
structure Block where
  src : Addr
  dst : Addr
  size : Word
  deriving DecidableEq, Repr

/-- The channel-configuration request (46_configure.md R364). A callback is named by a number and the user data is
one: both are opaque to every rule (93_implementation_defined.md I10, log entry 28). -/
structure CfgReq where
  direction : Direction
  srcAdj : Adjust
  dstAdj : Adjust
  blocks : List Block
  linked : Int
  cb : Option Nat
  ud : Nat
  deriving DecidableEq, Repr

/-- The 59 operations. Channel numbers that a rule checks are natural numbers (0 TX, 1 RX); the channel of an
autonomous step is a bit of its word, so it is one of the two. -/
inductive Instr
  -- MMIO reads (40_register_interface.md R180)
  | rdTxDmacr
  | rdTxDmasr
  | rdTxCurdescLsb
  | rdTxCurdescMsb
  | rdTxTaildescLsb
  | rdTxTaildescMsb
  | rdRxDmacr
  | rdRxDmasr
  | rdRxCurdescLsb
  | rdRxCurdescMsb
  | rdRxTaildescLsb
  | rdRxTaildescMsb
  -- MMIO writes (40_register_interface.md R181)
  | wrTxDmacr (v : Word)
  | wrTxDmasr (v : Word)
  | wrTxCurdescLsb (v : Word)
  | wrTxCurdescMsb (v : Word)
  | wrTxTaildescLsb (v : Word)
  | wrTxTaildescMsb (v : Word)
  | wrRxDmacr (v : Word)
  | wrRxDmasr (v : Word)
  | wrRxCurdescLsb (v : Word)
  | wrRxCurdescMsb (v : Word)
  | wrRxTaildescLsb (v : Word)
  | wrRxTaildescMsb (v : Word)
  -- host primitives (41_host_primitives.md)
  | ld32 (a : Addr)
  | st32 (a : Addr) (v : Word)
  | fence
  | dcFlush (a : Addr) (n : Nat)
  | dcInval (a : Addr) (n : Nat)
  | irqEnable (l : Nat)
  | irqDisable (l : Nat)
  | irqIsEnabled (l : Nat)
  | csEnter (c : Nat)
  | csExit (key : Key)
  | sleep
  | callback (c : Nat) (r : CbResult)
  | log (msg : String)
  -- driver procedures (43_ring.md to 47_controller.md)
  | relink (c : Nat)
  | populate (c : Nat) (buf : Addr) (len : Word) (first last : Bool)
  | reclaim (c : Nat)
  | start (c : Nat)
  | stop (c : Nat)
  | getStatus (c : Nat)
  | isr (c : Nat)
  | configure (c : Nat) (req : CfgReq)
  | reload (c : Nat) (src dst : Addr) (size : Word)
  | chanFilter (c : Nat) (tag : String)
  | init
  -- autonomous steps (42_engine_sequencer.md, 20_memory.md, 60_exceptions.md)
  | eHalt (c : Chan)
  | eFetch (c : Chan)
  | eXferTx
  | eXferRx
  | eWb (c : Chan)
  | eDelay (c : Chan)
  | eResetDone
  | envDrain
  | envEvict
  | envFill
  | irqTake (c : Chan)
  deriving DecidableEq, Repr

/-- The four classes of an operation word (30_encoding.md R140). -/
inductive OpClass
  | mmio
  | hostp
  | proc
  | auto
  deriving DecidableEq, Repr

/-- The class of each operation. -/
def Instr.opClass : Instr → OpClass
  | .rdTxDmacr | .rdTxDmasr | .rdTxCurdescLsb | .rdTxCurdescMsb | .rdTxTaildescLsb | .rdTxTaildescMsb
  | .rdRxDmacr | .rdRxDmasr | .rdRxCurdescLsb | .rdRxCurdescMsb | .rdRxTaildescLsb | .rdRxTaildescMsb
  | .wrTxDmacr _ | .wrTxDmasr _ | .wrTxCurdescLsb _ | .wrTxCurdescMsb _ | .wrTxTaildescLsb _ | .wrTxTaildescMsb _
  | .wrRxDmacr _ | .wrRxDmasr _ | .wrRxCurdescLsb _ | .wrRxCurdescMsb _ | .wrRxTaildescLsb _ | .wrRxTaildescMsb _ =>
    .mmio
  | .ld32 _ | .st32 _ _ | .fence | .dcFlush _ _ | .dcInval _ _ | .irqEnable _ | .irqDisable _ | .irqIsEnabled _
  | .csEnter _ | .csExit _ | .sleep | .callback _ _ | .log _ =>
    .hostp
  | .relink _ | .populate _ _ _ _ _ | .reclaim _ | .start _ | .stop _ | .getStatus _ | .isr _ | .configure _ _
  | .reload _ _ _ _ | .chanFilter _ _ | .init =>
    .proc
  | .eHalt _ | .eFetch _ | .eXferTx | .eXferRx | .eWb _ | .eDelay _ | .eResetDone | .envDrain | .envEvict
  | .envFill | .irqTake _ =>
    .auto

/-- The free callback body (log entry 4): the k-th body that the run's own list does not give, a finite sequence of
operations of the framework's choice (41_host_primitives.md R231). -/
opaque Config.freeBody : Nat → List Instr

end Sys2Proof
end

