-- ==== Sys2Proof/WellFormed.lean ====
section
/-! DEFINITION. What makes an operation's operands well formed, whatever the state: the checks the rules make on
operands alone. An ill-formed operation still decodes; its rule says which fault or result code it meets. -/

namespace Sys2Proof

/-- A channel number names a channel (00_scope.md R3). -/
def wfChan (c : Nat) : Bool := c == 0 || c == 1

/-- A line is one of the two (41_host_primitives.md R225). -/
def wfLine (p : Params) (l : Nat) : Bool := l == p.irq.tx || l == p.irq.rx

/-- A host word address is 4-byte aligned (20_memory.md R112). -/
def wfWordAddr (a : Addr) : Bool := a.toNat % 4 == 0

/-- The low word of a descriptor pointer is 64-byte aligned (20_memory.md R112). -/
def wfPtrLsb (v : Word) : Bool := v.toNat % 64 == 0

/-- A DMACR write that asks for neither excluded mode (40_register_interface.md R183). -/
def wfDmacr (v : Word) : Bool := !v.getLsbD 3 && !v.getLsbD 4

/-- A key whose line, if it has one, is one of the two. -/
def wfKey (p : Params) : Key → Bool
  | .line l _ => wfLine p l
  | .global _ | .both _ _ => true

/-- The operand checks of each operation. -/
def Instr.wf (p : Params) : Instr → Bool
  | .wrTxDmacr v | .wrRxDmacr v => wfDmacr v
  | .wrTxCurdescLsb v | .wrRxCurdescLsb v | .wrTxTaildescLsb v | .wrRxTaildescLsb v => wfPtrLsb v
  | .ld32 a => wfWordAddr a
  | .st32 a _ => wfWordAddr a
  | .irqEnable l | .irqDisable l | .irqIsEnabled l => wfLine p l
  | .csExit k => wfKey p k
  | .csEnter c | .callback c _ | .relink c | .populate c _ _ _ _ | .reclaim c | .start c | .stop c | .getStatus c
  | .isr c | .configure c _ | .reload c _ _ _ | .chanFilter c _ => wfChan c
  | .rdTxDmacr | .rdTxDmasr | .rdTxCurdescLsb | .rdTxCurdescMsb | .rdTxTaildescLsb | .rdTxTaildescMsb
  | .rdRxDmacr | .rdRxDmasr | .rdRxCurdescLsb | .rdRxCurdescMsb | .rdRxTaildescLsb | .rdRxTaildescMsb
  | .wrTxDmasr _ | .wrRxDmasr _ | .wrTxCurdescMsb _ | .wrRxCurdescMsb _ | .wrTxTaildescMsb _ | .wrRxTaildescMsb _
  | .fence | .dcFlush _ _ | .dcInval _ _ | .sleep | .log _ | .init
  | .eHalt _ | .eFetch _ | .eXferTx | .eXferRx | .eWb _ | .eDelay _ | .eResetDone | .envDrain | .envEvict
  | .envFill | .irqTake _ => true

end Sys2Proof
end

