-- ==== Sys2Proof/Decode.lean ====
section
/-! DEFINITION. Decoding an operation word with the arguments that travel beside it, and the encoder
(30_encoding.md R140 to R150). -/

namespace Sys2Proof

/-- The arguments beside an operation word (30_encoding.md R147): one slot per kind of argument; an operation reads
the slots its row of R147 lists. `a` also carries Populate's buffer, `len` also Reload's size. -/
structure Args where
  v : Word := 0
  a : Addr := 0
  n : Nat := 0
  l : Nat := 0
  c : Nat := 0
  key : Key := .global true
  r : CbResult := .ok
  msg : String := ""
  len : Word := 0
  first : Bool := false
  last : Bool := false
  src : Addr := 0
  dst : Addr := 0
  req : CfgReq := ⟨.memToPeriph, .increment, .increment, [], 0, none, 0⟩
  tag : String := ""
  deriving DecidableEq, Repr

/-- Why a word spells no operation (30_encoding.md R150). -/
inductive DecodeError
  | illegalOp (w : OpWord)
  | badRegisterAccess (off : Byte)
  | unmappedRegister (off : Byte)
  deriving DecidableEq, Repr

/-- w[15:14], the class selector (R140). -/
def opClassBits (w : OpWord) : Nat := (w.extractLsb' 14 2).toNat

/-- w[13:8], the number of a primitive, procedure or step (R143, R144). -/
def opNumber (w : OpWord) : Nat := (w.extractLsb' 8 6).toNat

/-- w[7:0], the offset of an MMIO word (R142). -/
def opOffset (w : OpWord) : Byte := w.extractLsb' 0 8

/-- The twelve reads (R145). -/
def decodeRead (off : Nat) : Option Instr :=
  match off with
  | 0x00 => some .rdTxDmacr
  | 0x04 => some .rdTxDmasr
  | 0x08 => some .rdTxCurdescLsb
  | 0x0C => some .rdTxCurdescMsb
  | 0x10 => some .rdTxTaildescLsb
  | 0x14 => some .rdTxTaildescMsb
  | 0x30 => some .rdRxDmacr
  | 0x34 => some .rdRxDmasr
  | 0x38 => some .rdRxCurdescLsb
  | 0x3C => some .rdRxCurdescMsb
  | 0x40 => some .rdRxTaildescLsb
  | 0x44 => some .rdRxTaildescMsb
  | _ => none

/-- The twelve writes (R145). -/
def decodeWrite (off : Nat) (v : Word) : Option Instr :=
  match off with
  | 0x00 => some (.wrTxDmacr v)
  | 0x04 => some (.wrTxDmasr v)
  | 0x08 => some (.wrTxCurdescLsb v)
  | 0x0C => some (.wrTxCurdescMsb v)
  | 0x10 => some (.wrTxTaildescLsb v)
  | 0x14 => some (.wrTxTaildescMsb v)
  | 0x30 => some (.wrRxDmacr v)
  | 0x34 => some (.wrRxDmasr v)
  | 0x38 => some (.wrRxCurdescLsb v)
  | 0x3C => some (.wrRxCurdescMsb v)
  | 0x40 => some (.wrRxTaildescLsb v)
  | 0x44 => some (.wrRxTaildescMsb v)
  | _ => none

/-- The host primitives by number (R143). -/
def decodeHostp (num : Nat) (x : Args) : Option Instr :=
  match num with
  | 0x01 => some (.ld32 x.a)
  | 0x02 => some (.st32 x.a x.v)
  | 0x03 => some .fence
  | 0x04 => some (.dcFlush x.a x.n)
  | 0x05 => some (.dcInval x.a x.n)
  | 0x06 => some (.irqEnable x.l)
  | 0x07 => some (.irqDisable x.l)
  | 0x08 => some (.irqIsEnabled x.l)
  | 0x09 => some (.csEnter x.c)
  | 0x0A => some (.csExit x.key)
  | 0x0B => some .sleep
  | 0x0C => some (.callback x.c x.r)
  | 0x0D => some (.log x.msg)
  | _ => none

/-- The driver procedures by number (R144). -/
def decodeProc (num : Nat) (x : Args) : Option Instr :=
  match num with
  | 0x01 => some (.relink x.c)
  | 0x02 => some (.populate x.c x.a x.len x.first x.last)
  | 0x03 => some (.reclaim x.c)
  | 0x04 => some (.start x.c)
  | 0x05 => some (.stop x.c)
  | 0x06 => some (.getStatus x.c)
  | 0x07 => some (.isr x.c)
  | 0x08 => some (.configure x.c x.req)
  | 0x09 => some (.reload x.c x.src x.dst x.len)
  | 0x0A => some (.chanFilter x.c x.tag)
  | 0x0B => some .init
  | _ => none

/-- The autonomous steps by number and channel bit (R144): a step that is not per channel needs C = 0. -/
def decodeAuto (num : Nat) (c : Bool) : Option Instr :=
  match num, c with
  | 0x01, false => some (.eHalt .tx)
  | 0x01, true => some (.eHalt .rx)
  | 0x02, false => some (.eFetch .tx)
  | 0x02, true => some (.eFetch .rx)
  | 0x03, false => some .eXferTx
  | 0x03, true => some .eXferRx
  | 0x04, false => some (.eWb .tx)
  | 0x04, true => some (.eWb .rx)
  | 0x05, false => some (.eDelay .tx)
  | 0x05, true => some (.eDelay .rx)
  | 0x06, false => some .eResetDone
  | 0x10, false => some .envDrain
  | 0x11, false => some .envEvict
  | 0x12, false => some .envFill
  | 0x13, false => some (.irqTake .tx)
  | 0x13, true => some (.irqTake .rx)
  | _, _ => none

/-- An operation found, or the word refused as spelling none. -/
def orIllegal (w : OpWord) : Option Instr → Except DecodeError Instr
  | some i => .ok i
  | none => .error (.illegalOp w)

/-- Class MMIO (R142, R150 a to c). R150 c speaks of an aligned OFF, so c comes after b; that a comes before both is a
DESIGN CHOICE (log entry 35). -/
def decodeMmio (w : OpWord) (v : Word) : Except DecodeError Instr :=
  if w.extractLsb' 9 5 ≠ 0 then .error (.illegalOp w)
  else if (opOffset w).toNat % 4 ≠ 0 then .error (.badRegisterAccess (opOffset w))
  else
    match if w.getLsbD 8 then decodeWrite (opOffset w).toNat v else decodeRead (opOffset w).toNat with
    | some i => .ok i
    | none => .error (.unmappedRegister (opOffset w))

/-- The decoder: w[15:14], then the class's selector, then the fields marked zero (R141, R150). -/
def decode (w : OpWord) (x : Args) : Except DecodeError Instr :=
  match opClassBits w with
  | 0 => decodeMmio w x.v
  | 1 => if opOffset w ≠ 0 then .error (.illegalOp w) else orIllegal w (decodeHostp (opNumber w) x)
  | 2 => if opOffset w ≠ 0 then .error (.illegalOp w) else orIllegal w (decodeProc (opNumber w) x)
  | _ => if w.extractLsb' 1 7 ≠ 0 then .error (.illegalOp w) else orIllegal w (decodeAuto (opNumber w) (w.getLsbD 0))

/-- The C bit of an autonomous step's word. -/
def chanBit : Chan → OpWord
  | .tx => 0
  | .rx => 1

/-- The operation word of each operation (R142 to R145). -/
def encodeWord : Instr → OpWord
  | .rdTxDmacr => 0x0000
  | .rdTxDmasr => 0x0004
  | .rdTxCurdescLsb => 0x0008
  | .rdTxCurdescMsb => 0x000C
  | .rdTxTaildescLsb => 0x0010
  | .rdTxTaildescMsb => 0x0014
  | .rdRxDmacr => 0x0030
  | .rdRxDmasr => 0x0034
  | .rdRxCurdescLsb => 0x0038
  | .rdRxCurdescMsb => 0x003C
  | .rdRxTaildescLsb => 0x0040
  | .rdRxTaildescMsb => 0x0044
  | .wrTxDmacr _ => 0x0100
  | .wrTxDmasr _ => 0x0104
  | .wrTxCurdescLsb _ => 0x0108
  | .wrTxCurdescMsb _ => 0x010C
  | .wrTxTaildescLsb _ => 0x0110
  | .wrTxTaildescMsb _ => 0x0114
  | .wrRxDmacr _ => 0x0130
  | .wrRxDmasr _ => 0x0134
  | .wrRxCurdescLsb _ => 0x0138
  | .wrRxCurdescMsb _ => 0x013C
  | .wrRxTaildescLsb _ => 0x0140
  | .wrRxTaildescMsb _ => 0x0144
  | .ld32 _ => 0x4100
  | .st32 _ _ => 0x4200
  | .fence => 0x4300
  | .dcFlush _ _ => 0x4400
  | .dcInval _ _ => 0x4500
  | .irqEnable _ => 0x4600
  | .irqDisable _ => 0x4700
  | .irqIsEnabled _ => 0x4800
  | .csEnter _ => 0x4900
  | .csExit _ => 0x4A00
  | .sleep => 0x4B00
  | .callback _ _ => 0x4C00
  | .log _ => 0x4D00
  | .relink _ => 0x8100
  | .populate _ _ _ _ _ => 0x8200
  | .reclaim _ => 0x8300
  | .start _ => 0x8400
  | .stop _ => 0x8500
  | .getStatus _ => 0x8600
  | .isr _ => 0x8700
  | .configure _ _ => 0x8800
  | .reload _ _ _ _ => 0x8900
  | .chanFilter _ _ => 0x8A00
  | .init => 0x8B00
  | .eHalt c => 0xC100 ||| chanBit c
  | .eFetch c => 0xC200 ||| chanBit c
  | .eXferTx => 0xC300
  | .eXferRx => 0xC301
  | .eWb c => 0xC400 ||| chanBit c
  | .eDelay c => 0xC500 ||| chanBit c
  | .eResetDone => 0xC600
  | .envDrain => 0xD000
  | .envEvict => 0xD100
  | .envFill => 0xD200
  | .irqTake c => 0xD300 ||| chanBit c

/-- The arguments of each operation, in the slots its decoding reads (R147). -/
def encodeArgs : Instr → Args
  | .wrTxDmacr v | .wrTxDmasr v | .wrTxCurdescLsb v | .wrTxCurdescMsb v | .wrTxTaildescLsb v | .wrTxTaildescMsb v
  | .wrRxDmacr v | .wrRxDmasr v | .wrRxCurdescLsb v | .wrRxCurdescMsb v | .wrRxTaildescLsb v
  | .wrRxTaildescMsb v => { v := v }
  | .ld32 a => { a := a }
  | .st32 a v => { a := a, v := v }
  | .dcFlush a n | .dcInval a n => { a := a, n := n }
  | .irqEnable l | .irqDisable l | .irqIsEnabled l => { l := l }
  | .csEnter c => { c := c }
  | .csExit k => { key := k }
  | .callback c r => { c := c, r := r }
  | .log m => { msg := m }
  | .relink c | .reclaim c | .start c | .stop c | .getStatus c | .isr c => { c := c }
  | .populate c buf len f l => { c := c, a := buf, len := len, first := f, last := l }
  | .configure c q => { c := c, req := q }
  | .reload c src dst size => { c := c, src := src, dst := dst, len := size }
  | .chanFilter c t => { c := c, tag := t }
  | .rdTxDmacr | .rdTxDmasr | .rdTxCurdescLsb | .rdTxCurdescMsb | .rdTxTaildescLsb | .rdTxTaildescMsb
  | .rdRxDmacr | .rdRxDmasr | .rdRxCurdescLsb | .rdRxCurdescMsb | .rdRxTaildescLsb | .rdRxTaildescMsb
  | .fence | .sleep | .init
  | .eHalt _ | .eFetch _ | .eXferTx | .eXferRx | .eWb _ | .eDelay _ | .eResetDone | .envDrain | .envEvict
  | .envFill | .irqTake _ => {}

/-- The instruction the decoder reads from the table's word, with every argument beside it at its default. -/
def decodeTableWord (nbits w : Nat) : Option Instr :=
  if 2 ^ nbits ≤ w ∨ 2 ^ 16 ≤ w then none
  else
    match decode (BitVec.ofNat 16 w) {} with
    | .ok i => some i
    | .error _ => none

end Sys2Proof
end

