-- ==== Sys2Proof/Machine/State.lean ====
section
/-! DEFINITION. Everything the spec gives the machine, as plain data: the engine, the host, the driver's records,
memory, the observation logs, and the run's inputs (turns, draws, callback bodies). -/

namespace Sys2Proof.Machine

/-- The sequencer states of a channel (10_state.md R50). -/
inductive Phase
  | halted
  | idle
  | fetch
  | xfer
  | wb
  deriving DecidableEq, Repr

/-- The response of a transfer (10_state.md R52). -/
inductive XResp
  | okay
  | slverr
  | decerr
  | interr
  deriving DecidableEq, Repr

/-- The stored fields of DMACR (10_state.md R42). RESET is `State.rstBusy`; KEYHOLE and CYC_BD_EN always read 0. -/
structure Dmacr where
  rs : Bool
  iocIrqEn : Bool
  dlyIrqEn : Bool
  errIrqEn : Bool
  irqThreshold : BitVec 8
  irqDelay : BitVec 8
  deriving DecidableEq, Repr

/-- The stored fields of DMASR (10_state.md R43). HALTED, IDLE and the counts are computed when it is read. -/
structure Dmasr where
  dmaIntErr : Bool
  dmaSlvErr : Bool
  dmaDecErr : Bool
  sgIntErr : Bool
  sgSlvErr : Bool
  sgDecErr : Bool
  iocIrq : Bool
  dlyIrq : Bool
  errIrq : Bool
  deriving DecidableEq, Repr

/-- The five application words of a descriptor (30_encoding.md R164). -/
structure App where
  app0 : Word
  app1 : Word
  app2 : Word
  app3 : Word
  app4 : Word
  deriving DecidableEq, Repr

/-- snap[c]: a fetched descriptor, its address and 13 words (10_state.md R52, 30_encoding.md R160). -/
structure Snap where
  addr : Addr
  nxtdesc : Word
  nxtdescMsb : Word
  buf : Word
  bufMsb : Word
  rsvd0 : Word
  rsvd1 : Word
  control : Word
  status : Word
  app : App
  deriving DecidableEq, Repr

/-- xres[c]: the outcome of a transfer (10_state.md R52). -/
structure XRes where
  n : BitVec 26
  resp : XResp
  rxEof : Bool
  rxSof : Bool
  app : App
  deriving DecidableEq, Repr

/-- One channel of the engine (10_state.md R41 to R53). -/
structure Eng where
  cr : Dmacr
  sr : Dmasr
  curdesc : Addr
  taildesc : Addr
  phase : Phase
  fp : Addr
  snap : Snap
  xres : XRes
  cnt : BitVec 8
  armed : Bool
  deriving DecidableEq, Repr

/-- One line of the host's interrupt controller (10_state.md R60). -/
structure Line where
  en : Bool
  inst : Bool
  deriving DecidableEq, Repr

/-- Driver result codes (60_exceptions.md R410). -/
inductive Code
  | ok
  | ebusy
  | einval
  | enotsup
  | eio
  deriving DecidableEq, Repr

/-- What an operation returns (30_encoding.md R147). -/
inductive Value
  | unit
  | word (w : Word)
  | bool (b : Bool)
  | key (k : Key)
  | code (r : Code)
  | status (r : Code) (busy : Bool)
  | count (n : Nat)
  deriving DecidableEq, Repr

/-- The operands of a Populate in progress (43_ring.md R301). -/
structure PopArgs where
  c : Chan
  buf : Addr
  len : Word
  first : Bool
  last : Bool
  deriving DecidableEq, Repr

/-- A program point of a driver procedure: where it stands, with the local values it still needs. The operation
before the point has left its result in the context. -/
inductive Cont
  /-- tD takes the value returned, and tB the busy flag of a status (30_encoding.md R170). -/
  | assign (d b : Option Nat)
  /-- The procedure returns a value. -/
  | ret (v : Value)
  /-- Populate (43_ring.md R301): after CS_ENTER; after each load; before CS_EXIT. -/
  | popSlot (p : PopArgs)
  | popCtl (p : PopArgs) (key : Key) (ni : Nat)
  | popSts (p : PopArgs) (key : Key) (ni : Nat) (ctl : Word)
  | popSet (c : Chan) (ni : Nat)
  /-- Reclaim (43_ring.md R302): after CS_ENTER; after the STATUS, checksum and buffer loads; after the
  invalidation; at the end of an iteration. -/
  | rcKey (c : Chan)
  | rcSts (c : Chan) (key : Key) (count : Nat) (d : Addr)
  | rcCsum (c : Chan) (key : Key) (count : Nat) (d : Addr) (sts : Word) (err : Bool)
  | rcBufHi (c : Chan) (key : Key) (count : Nat) (d : Addr) (sts : Word) (err : Bool)
  | rcBufLo (c : Chan) (key : Key) (count : Nat) (d : Addr) (sts : Word) (err : Bool) (hi : Word)
  | rcRx (c : Chan) (key : Key) (count : Nat) (d : Addr) (sts : Word) (err : Bool)
  | rcNext (c : Chan) (key : Key) (count : Nat)
  /-- Start (44_channel.md R330): after CS_ENTER; after the DMASR read; before the tail write. -/
  | startKey (c : Chan)
  | startSr (c : Chan) (key : Key)
  | startTail (c : Chan) (key : Key)
  /-- Stop (R331): after CS_ENTER; after the DMACR read. -/
  | stopKey (c : Chan)
  | stopCr (c : Chan) (key : Key)
  /-- Get_status (R332): after the DMASR read. -/
  | statusSr
  /-- ISR (45_interrupt.md R350): after IRQ_IS_ENABLED; after the DMASR read. -/
  | isrWas (c : Chan) (l : Nat)
  | isrSr (c : Chan) (l : Nat) (was : Bool)
  /-- Configure (46_configure.md R365): after CS_ENTER; after the CURDESC writes; after CS_EXIT; after a Populate. -/
  | cfgKey (c : Chan) (req : CfgReq)
  | cfgDone (c : Chan) (req : CfgReq) (key : Key)
  | cfgLinked (c : Chan) (req : CfgReq)
  | cfgNext (c : Chan) (blocks : List Block)
  /-- Init (47_controller.md R390): before poll i; after the read of poll i; after the lines are enabled. -/
  | initPoll (i : Nat)
  | initChk (i : Nat)
  | initReady
  deriving DecidableEq, Repr

/-- A line of a program: an operation word, the arguments beside it, and the program values it writes and reads
(30_encoding.md R170): `dst` is the tD that takes the result and `dst2` the tB that takes the busy flag of `status tD,
tB, c`; `vFrom`, `aFrom` and `keyFrom` name the t that gives the operand, in place of the one in `args`. -/
structure ProgLine where
  word : OpWord
  args : Args := {}
  dst : Option Nat := none
  dst2 : Option Nat := none
  vFrom : Option Nat := none
  aFrom : Option Nat := none
  keyFrom : Option Nat := none
  deriving DecidableEq, Repr

/-- What a context still has to do: a line to decode, an operation of an expansion, or a program point. -/
inductive Item
  | line (l : ProgLine)
  | op (i : Instr)
  | cont (k : Cont)
  /-- Populate's ST32 of CH[c].app0, which is read as the store runs (43_ring.md R301). -/
  | app0Store (c : Chan) (a : Addr)
  deriving DecidableEq, Repr

/-- A context of the host: its position (the code still to run), its program values, and the value its last operation
returned (10_state.md R61, R40). -/
structure Ctx where
  code : List Item
  vals : List (Nat × Value)
  ret : Value
  deriving DecidableEq, Repr

/-- An active interrupt context: the channel whose ISR it runs and the line it was taken on (10_state.md R61). -/
structure IrqCtx where
  chan : Chan
  line : Nat
  ctx : Ctx
  deriving DecidableEq, Repr

/-- A pending host store (20_memory.md R106). -/
structure SbEntry where
  addr : Addr
  val : Word
  deriving DecidableEq, Repr

/-- A line of the data cache (20_memory.md R124). -/
structure CacheLine where
  base : Nat
  bytes : List Byte
  dirty : Bool
  deriving DecidableEq, Repr

/-- The driver's record of a channel (10_state.md R63). -/
structure Record where
  ring : Addr
  cap : Nat
  pop : Nat
  cmp : Nat
  base : Addr
  irq : Nat
  dir : Direction
  cb : Option Nat
  ud : Nat
  lastRx : BitVec 26
  csumChk : Bool
  app0 : Word
  configured : Bool
  deriving DecidableEq, Repr

/-- The controller's state (10_state.md R64). -/
inductive CtlState
  | uninit
  | ready
  | failed
  deriving DecidableEq, Repr

/-- An entry of CBLOG (10_state.md R65). -/
structure CbEntry where
  chan : Chan
  ud : Nat
  result : CbResult
  deriving DecidableEq, Repr

/-- An entry of OUTS: a leg the outbound stream received (10_state.md R65, 42_engine_sequencer.md R258). -/
structure OutLeg where
  bytes : List Byte
  sof : Bool
  eof : Bool
  app : App
  deriving DecidableEq, Repr

/-- Physical memory, the device view `mem` (20_memory.md R104): cells with addresses strictly rising, none equal to
what an unlisted address reads as. -/
abbrev Memory := List Host.Cell

/-- What an unlisted address reads as: 0, the contents of both rings before the first Configure (10_state.md R72).
DESIGN CHOICE for every other byte, which the spec makes an input of the run (log entry 7). -/
def Memory.blank : Byte := 0

/-- The canonical form from address `lo` on. -/
def Memory.wfFrom (lo : Nat) : Memory → Bool
  | [] => true
  | (a, b) :: m => decide (lo ≤ a) && decide (a < 2 ^ 64) && decide (b ≠ Memory.blank) && Memory.wfFrom (a + 1) m

/-- Memory is in canonical form. -/
def Memory.wf (m : Memory) : Bool := Memory.wfFrom 0 m

/-- Whose turn it is: the host's running context, or the autonomous step an operation word names (30_encoding.md
R144). -/
inductive Turn
  | host
  | auto (w : OpWord)
  deriving DecidableEq, Repr

/-- The machine. -/
structure State where
  /-- The parameters (00_scope.md R9); no step changes them. -/
  cfg : Params
  /-- ENG[0] and ENG[1]. -/
  eng : Pair Eng
  /-- rst_busy (10_state.md R55). -/
  rstBusy : Bool
  /-- The global interrupt enable (R60). -/
  gie : Bool
  /-- The line of each channel (R60). -/
  lines : Pair Line
  /-- The thread context (R61). -/
  thread : Ctx
  /-- The active interrupt contexts, the running one first (R61). -/
  irqs : List IrqCtx
  /-- The store buffer, oldest entry first (R62). -/
  sb : List SbEntry
  /-- The data cache, lines by rising address (R62). -/
  cache : List CacheLine
  /-- CH[c] (R63). -/
  ch : Pair Record
  /-- ctl_state (R64). -/
  ctl : CtlState
  cblog : List CbEntry
  outs : List OutLeg
  logs : List String
  mem : Memory
  /-- The MODEL's own: the turns the run takes next, and how many were taken from the free choice (log entry 1). -/
  turns : List Turn
  turnNo : Nat
  /-- The MODEL's own: the draws the run makes next, and how many were taken from the free choice (log entry 2). -/
  draws : List Nat
  drawNo : Nat
  /-- The MODEL's own: the callback bodies the run takes next, and how many were taken from the free choice
  (log entry 4). -/
  bodies : List (List Instr)
  bodyNo : Nat
  deriving DecidableEq, Repr

/-- The model faults of 60_exceptions.md R415. Each stops the run before the step has any effect, where the spec refuses
to give a behaviour; each is safe, since the spec itself stops there. -/
inductive Fault
  /-- Raised by the fetch of a word that spells no operation, or of an AUTO word in a program (30_encoding.md R150 a, d,
  e, f). Safe. -/
  | illegalOp (w : OpWord)
  /-- Raised by the decoding of an MMIO word whose offset is not 4-byte aligned (R150 b). Safe. -/
  | badRegisterAccess (off : Byte)
  /-- Raised by the decoding of an MMIO word whose aligned offset is no register (R150 c). Safe. -/
  | unmappedRegister (off : Byte)
  /-- Raised by an MMIO write while rst_busy (40_register_interface.md R181). Safe. -/
  | writeDuringReset (off : Byte)
  /-- Raised by a DMACR write with KEYHOLE or CYC_BD_EN = 1 (R183). Safe. -/
  | unmodelledMode (c : Chan) (v : Word)
  /-- Raised by a CURDESC write while the channel is not HALTED (R186). Safe. -/
  | curdescWhileRunning (c : Chan)
  /-- Raised by a CURDESC_LSB or TAILDESC_LSB write with bits 5:0 not 0 (R186, R187), and by the writeback of a
  descriptor whose next pointer has them not 0 (42_engine_sequencer.md R262). Safe. -/
  | misalignedDescriptorPointer (c : Chan) (p : Addr)
  /-- Raised by LD32 or ST32 at an address not 4-byte aligned (41_host_primitives.md R220, R221). Safe. -/
  | misalignedHostAccess (a : Addr)
  /-- Raised by LD32, or by the drain of an ST32, where P_BUS does not answer OKAY (20_memory.md R111). Safe. -/
  | hostBusError (a : Addr)
  /-- Raised by a driver procedure other than INIT and CHAN_FILTER while ctl_state is not READY (10_state.md R64).
  Safe. -/
  | deviceUnusable
  /-- Raised by Populate, Reclaim or Start on a channel never configured (43_ring.md R310). Safe. -/
  | unconfiguredChannel (c : Chan)
  /-- Raised by INIT when ctl_state is not UNINIT (47_controller.md R390). Safe. -/
  | reInit
  /-- Raised where the parameters break 00_scope.md R10, where an internal procedure gets a channel outside 0 and 1,
  where a line is neither P_IRQ_TX nor P_IRQ_RX, and by Configure on the channel being reclaimed, called from its
  callback (R415). Safe. -/
  | badConfiguration
  deriving DecidableEq, Repr

/-- What the model refuses. -/
inductive Refusal
  /-- Raised by an arm of exec whose instruction has no meaning yet. Safe. -/
  | notModelled (mnemonic : String)
  /-- Raised by the fetch of a program line whose operand names a program value t that holds no value of its kind: such
  a line is no program of the spec (10_state.md R40 "written before they are read"; log entry 19). Safe. -/
  | unboundValue (t : Nat)
  deriving DecidableEq, Repr

/-- The outcome of a step of this machine. -/
abbrev Res := Host.Outcome State Fault Refusal

/-- DMACR after reset (10_state.md R80). -/
def Dmacr.reset : Dmacr := ⟨false, false, false, false, 1, 0⟩

/-- The stored fields of DMASR after reset (10_state.md R80). -/
def Dmasr.reset : Dmasr := ⟨false, false, false, false, false, false, false, false, false⟩

/-- Five application words of zeros. -/
def App.zero : App := ⟨0, 0, 0, 0, 0⟩

/-- snap at boot: the spec leaves it unspecified; DESIGN CHOICE zero (log entry 11). -/
def Snap.boot : Snap := ⟨0, 0, 0, 0, 0, 0, 0, 0, 0, App.zero⟩

/-- xres at boot: the spec leaves it unspecified; DESIGN CHOICE zero (log entry 11). -/
def XRes.boot : XRes := ⟨0, .okay, false, false, App.zero⟩

/-- A channel of the engine at power-on: the soft-reset values (70_reset_and_hazards.md R450, 10_state.md R80). -/
def Eng.boot : Eng := ⟨.reset, .reset, 0, 0, .halted, 0, .boot, .boot, 1, false⟩

/-- A context with nothing to run. -/
def Ctx.idle : Ctx := ⟨[], [], .unit⟩

/-- CH[c] before the first Configure (10_state.md R63). DESIGN CHOICE (log entries 9 and 10) for base, irq and dir, which
take the value INIT gives them, and for pop, cmp and ud, which are 0. -/
def Record.boot (p : Params) : Chan → Record
  | .tx => ⟨p.ring.tx, p.cap.tx, 0, 0, p.base, p.irq.tx, .memToPeriph, none, 0, 0, false, 0, false⟩
  | .rx => ⟨p.ring.rx, p.cap.rx, 0, 0, p.base + 0x30, p.irq.rx, .periphToMem, none, 0, 0, false, 0, false⟩

/-- The machine at boot with given parameters (70_reset_and_hazards.md R450, R451). -/
def State.boot (p : Params) : State where
  cfg := p
  eng := ⟨.boot, .boot⟩
  rstBusy := false
  gie := true
  lines := ⟨⟨false, false⟩, ⟨false, false⟩⟩
  thread := .idle
  irqs := []
  sb := []
  cache := []
  ch := ⟨.boot p .tx, .boot p .rx⟩
  ctl := .uninit
  cblog := []
  outs := []
  logs := []
  mem := []
  turns := []
  turnNo := 0
  draws := []
  drawNo := 0
  bodies := []
  bodyNo := 0

/-- The machine right after reset, with the parameters of the spec's test vectors (log entry 5). -/
def State.reset : State := State.boot Params.vectors

end Sys2Proof.Machine
end

