-- ==== Sys2Proof/Machine/Flags.lean ====
section
/-! DEFINITION. Every flag and derived value of the engine: register values as software reads them, interrupt outputs,
error and completion bookkeeping, descriptor states. -/

namespace Sys2Proof.Machine

/-- DMACR's reserved bits 1, 11:5 and 15, which read as a draw (30_encoding.md R151). -/
def dmacrReserved : Word := 0x00008FE2

/-- DMASR's bits that always read as a draw: the reserved bits 2, 7, 11, 15 and IRQ_DELAY_STS (10_state.md R43). -/
def dmasrDrawn : Word := 0xFF008884

/-- One bit at a position of a word. -/
def bitAt (b : Bool) (i : Nat) : Word := if b then 1#32 <<< i else 0

/-- A value whose bits in `mask` come from a draw. -/
def withDraw (v mask : Word) (d : Nat) : Word := (v &&& ~~~mask) ||| (BitVec.ofNat 32 d &&& mask)

/-- DMACR without its drawn bits (40_register_interface.md R180): KEYHOLE and CYC_BD_EN read 0 (R183). -/
def dmacrFields (cr : Dmacr) (rstBusy : Bool) : Word :=
  bitAt cr.rs 0 ||| bitAt rstBusy 2 ||| bitAt cr.iocIrqEn 12 ||| bitAt cr.dlyIrqEn 13 ||| bitAt cr.errIrqEn 14
    ||| cr.irqThreshold.setWidth 32 <<< 16 ||| cr.irqDelay.setWidth 32 <<< 24

/-- DMACR as an MMIO read returns it, `d` being the draw of its reserved bits (R180). -/
def dmacrRead (cr : Dmacr) (rstBusy : Bool) (d : Nat) : Word := withDraw (dmacrFields cr rstBusy) dmacrReserved d

/-- DMASR without its drawn bits (R180); IDLE is 1 in phase IDLE and a draw while HALTED (10_state.md R56). -/
def dmasrFields (e : Eng) : Word :=
  bitAt (e.phase == .halted) 0 ||| bitAt (e.phase == .idle) 1 ||| bitAt true 3 ||| bitAt e.sr.dmaIntErr 4
    ||| bitAt e.sr.dmaSlvErr 5 ||| bitAt e.sr.dmaDecErr 6 ||| bitAt e.sr.sgIntErr 8 ||| bitAt e.sr.sgSlvErr 9
    ||| bitAt e.sr.sgDecErr 10 ||| bitAt e.sr.iocIrq 12 ||| bitAt e.sr.dlyIrq 13 ||| bitAt e.sr.errIrq 14
    ||| e.cnt.setWidth 32 <<< 16

/-- The bits of DMASR that read as a draw in a given phase. -/
def dmasrMask (ph : Phase) : Word := if ph == .halted then dmasrDrawn ||| 2 else dmasrDrawn

/-- DMASR as an MMIO read returns it (R180). -/
def dmasrRead (e : Eng) (d : Nat) : Word := withDraw (dmasrFields e) (dmasrMask e.phase) d

/-- irq_out[c] (10_state.md R47). -/
def irqOut (e : Eng) : Bool :=
  (e.sr.iocIrq && e.cr.iocIrqEn) || (e.sr.dlyIrq && e.cr.dlyIrqEn) || (e.sr.errIrq && e.cr.errIrqEn)

/-- errlat[c] (10_state.md R54): a report only. -/
def errlat (e : Eng) : Bool :=
  e.sr.dmaIntErr || e.sr.dmaSlvErr || e.sr.dmaDecErr || e.sr.sgIntErr || e.sr.sgSlvErr || e.sr.sgDecErr

/-- A channel is busy (10_state.md R57). -/
def Eng.busy (e : Eng) : Bool := e.phase == .fetch || e.phase == .xfer || e.phase == .wb

/-- A stop request is pending (10_state.md R57). -/
def Eng.stopPending (e : Eng) : Bool := !e.cr.rs && e.phase != .halted

/-- ERROR_COMPLETION (42_engine_sequencer.md R260). -/
def errorCompletion (e : Eng) : Eng :=
  { e with sr := { e.sr with errIrq := true }, cr := { e.cr with rs := false }, phase := .halted }

/-- The DMASR bit of a descriptor-fetch error (R256). -/
def setSgErr (r : XResp) (sr : Dmasr) : Dmasr :=
  match r with
  | .decerr => { sr with sgDecErr := true }
  | .slverr => { sr with sgSlvErr := true }
  | .interr => { sr with sgIntErr := true }
  | .okay => sr

/-- The DMASR bit of a transfer error (R260). -/
def setDmaErr (r : XResp) (sr : Dmasr) : Dmasr :=
  match r with
  | .decerr => { sr with dmaDecErr := true }
  | .slverr => { sr with dmaSlvErr := true }
  | .interr => { sr with dmaIntErr := true }
  | .okay => sr

/-- FETCH_ERROR (R256): FP and the descriptor stay as they are. -/
def fetchError (r : XResp) (e : Eng) : Eng := errorCompletion { e with sr := setSgErr r e.sr }

/-- COMPLETION_EVENT (R270). -/
def completionEvent (e : Eng) : Eng :=
  if e.cnt - 1 = 0 then
    { e with sr := { e.sr with iocIrq := true }, cnt := e.cr.irqThreshold, armed := false }
  else { e with cnt := e.cnt - 1, armed := true }

/-- A bus response as a transfer's response. -/
def XResp.ofBus : BusResp → XResp
  | .okay => .okay
  | .slverr => .slverr
  | .decerr => .decerr

/-- The STATUS bit of a transfer's response (30_encoding.md R162, 42_engine_sequencer.md R261). -/
def respBits : XResp → Word
  | .decerr => 0x40000000
  | .slverr => 0x20000000
  | .interr => 0x10000000
  | .okay => 0

/-- LEN_MASK = MASK(25,0) (10_state.md R70). -/
def lenMask : Word := 0x03FFFFFF

/-- ERR_MASK, the three error flags of STATUS (30_encoding.md R162). -/
def errMask : Word := 0x70000000

/-- The "finished" test on a STATUS word (10_state.md R70). -/
def finishedStatus (sts : Word) : Bool := (sts &&& ~~~lenMask) != 0

/-- The error test on a STATUS word (43_ring.md R302). -/
def errStatus (sts : Word) : Bool := (sts &&& errMask) != 0

/-- The three states of a descriptor (10_state.md R70). -/
inductive DescState
  | free
  | pending
  | finished
  deriving DecidableEq, Repr

/-- The state of a descriptor, from its CONTROL and STATUS words (10_state.md R70). -/
def descState (control status : Word) : DescState :=
  if control = 0 ∧ status = 0 then .free else if finishedStatus status then .finished else .pending

/-- The suggested number of a result code (60_exceptions.md R410): negated errno values, which no rule depends on
(log entry 26). -/
def Code.errno : Code → Int
  | .ok => 0
  | .ebusy => -16
  | .einval => -22
  | .enotsup => -134
  | .eio => -5

/-- The number a callback receives (60_exceptions.md R405). -/
def CbResult.number (p : Params) : CbResult → Int
  | .ok => 0
  | .fault => p.resFault

end Sys2Proof.Machine
end

