-- ==== Sys2Proof/Machine/Operands.lean ====
section
/-! DEFINITION. How operands and words are assembled (30_encoding.md R146, R160 to R164), byte order (20_memory.md R102),
channel and line numbers, and the program values of a line (R170). -/

namespace Sys2Proof.Machine

/-- The channel of a number, if it is one (00_scope.md R3). -/
def chanOf (c : Nat) : Option Chan :=
  match c with
  | 0 => some .tx
  | 1 => some .rx
  | _ => none

/-- The number of a channel (00_scope.md R3). -/
def chanNum : Chan → Nat
  | .tx => 0
  | .rx => 1

/-- The channel whose line a line number is, if it is one of the two (10_state.md R47, R60). -/
def lineOwner (p : Params) (l : Nat) : Option Chan :=
  if l = p.irq.tx then some .tx else if l = p.irq.rx then some .rx else none

/-- Bits 31:0 of an address. -/
def lo32 (a : Addr) : Word := a.extractLsb' 0 32

/-- Bits 63:32 of an address. -/
def hi32 (a : Addr) : Word := a.extractLsb' 32 32

/-- A 64-bit pointer from its two words: the high word is the high part (R146, R163). -/
def joinPtr (hi lo : Word) : Addr := hi ++ lo

/-- Bits 5:0 of a pointer are 0 (20_memory.md R112). -/
def aligned64 (a : Addr) : Bool := a.extractLsb' 0 6 == 0

/-- Bits 5:0 of a pointer's low word are 0 (40_register_interface.md R186, R187). -/
def alignedLow (v : Word) : Bool := v.extractLsb' 0 6 == 0

/-- A host word address is 4-byte aligned (20_memory.md R112). -/
def aligned4 (a : Addr) : Bool := a.extractLsb' 0 2 == 0

/-- desc_addr(c, i) = P_RING_c + 64 · i (00_scope.md R13). -/
def descAddr (p : Params) (c : Chan) (i : Nat) : Addr := p.ring.get c + BitVec.ofNat 64 (descStride * i)

/-- The CONTROL word that Populate writes (30_encoding.md R161). -/
def controlWord (len : Word) (first last : Bool) : Word := (len &&& lenMask) ||| bitAt last 26 ||| bitAt first 27

/-- The length field of a CONTROL or STATUS word, bits 25:0 (R161, R162). -/
def lenField (w : Word) : BitVec 26 := w.extractLsb' 0 26

/-- CONTROL bit 27, SOF (R161). -/
def sofBit (w : Word) : Bool := w.getLsbD 27

/-- CONTROL bit 26, EOF (R161). -/
def eofBit (w : Word) : Bool := w.getLsbD 26

/-- STATUS bit 31, CMPLT (R162). -/
def cmpltBit (w : Word) : Bool := w.getLsbD 31

/-- The STATUS word E_WB writes (42_engine_sequencer.md R261): RX adds the frame flags, TX writes 0 there. -/
def statusWord (c : Chan) (x : XRes) : Word :=
  let extra := match c with
    | .tx => 0
    | .rx => bitAt x.rxSof 27 ||| bitAt x.rxEof 26
  0x80000000 ||| respBits x.resp ||| extra ||| x.n.setWidth 32

/-- CR_START, the value Start writes to DMACR (30_encoding.md R146). -/
def crStart (p : Params) : Word :=
  0x00007001 ||| BitVec.ofNat 32 p.irqThreshold <<< 16 ||| BitVec.ofNat 32 p.irqDelay <<< 24

/-- The little-endian bytes of a word (20_memory.md R102). -/
def wordBytes (v : Word) : List Byte :=
  [v.extractLsb' 0 8, v.extractLsb' 8 8, v.extractLsb' 16 8, v.extractLsb' 24 8]

/-- A word from its little-endian bytes (20_memory.md R102). -/
def wordOfBytes (b0 b1 b2 b3 : Byte) : Word := b3 ++ b2 ++ b1 ++ b0

/-- The bytes of the five application words, in ascending addresses. -/
def appBytes (x : App) : List Byte :=
  wordBytes x.app0 ++ wordBytes x.app1 ++ wordBytes x.app2 ++ wordBytes x.app3 ++ wordBytes x.app4

/-- The byte offset of APP word k in a descriptor (R160). -/
def appOffset (k : Nat) : Addr := BitVec.ofNat 64 (0x20 + 4 * k)

/-- The `n` bytes a draw stands for, the first its lowest. -/
def drawnBytes : Nat → Nat → List Byte
  | 0, _ => []
  | n + 1, v => BitVec.ofNat 8 v :: drawnBytes n (v / 256)

/-- The five words a draw stands for. -/
def drawnApp (v : Nat) : App :=
  let w : BitVec 160 := BitVec.ofNat 160 v
  ⟨w.extractLsb' 0 32, w.extractLsb' 32 32, w.extractLsb' 64 32, w.extractLsb' 96 32, w.extractLsb' 128 32⟩

/-- The descriptor copy a draw stands for (R280: unspecified after a soft reset). -/
def drawnSnap (v : Nat) : Snap :=
  let w : BitVec 480 := BitVec.ofNat 480 v
  ⟨w.extractLsb' 0 64, w.extractLsb' 64 32, w.extractLsb' 96 32, w.extractLsb' 128 32, w.extractLsb' 160 32,
    w.extractLsb' 192 32, w.extractLsb' 224 32, w.extractLsb' 256 32, w.extractLsb' 288 32, drawnApp (v / 2 ^ 320)⟩

/-- The response a draw stands for. -/
def drawnResp (v : Nat) : XResp :=
  match v % 4 with
  | 0 => .okay
  | 1 => .slverr
  | 2 => .decerr
  | _ => .interr

/-- A yes or no a draw stands for. -/
def drawnBool (v : Nat) : Bool := v % 2 == 1

/-- The transfer outcome a draw stands for (R280: unspecified after a soft reset). -/
def drawnXRes (v : Nat) : XRes :=
  ⟨BitVec.ofNat 26 (v / 16), drawnResp v, drawnBool (v / 4), drawnBool (v / 8), drawnApp (v / 2 ^ 30)⟩

/-- A threshold in 1..255 a draw stands for (40_register_interface.md R185). -/
def drawnThreshold (v : Nat) : BitVec 8 := BitVec.ofNat 8 (1 + v % 255)

/-- The word a value is, 0 for a value of another kind; used only where the operation before returned a word. -/
def Value.asWord : Value → Word
  | .word w => w
  | .unit | .bool _ | .key _ | .code _ | .status _ _ | .count _ => 0

/-- The truth value a value is, false for a value of another kind. -/
def Value.asBool : Value → Bool
  | .bool b => b
  | .unit | .word _ | .key _ | .code _ | .status _ _ | .count _ => false

/-- The key a value is; the default is used only for a value of another kind, which no expansion meets. -/
def Value.asKey : Value → Key
  | .key k => k
  | .unit | .word _ | .bool _ | .code _ | .status _ _ | .count _ => .global true

/-- The result code a value is, OK for a value of another kind. -/
def Value.asCode : Value → Code
  | .code r => r
  | .unit | .word _ | .bool _ | .key _ | .status _ _ | .count _ => .ok

/-- The program value tK, if it was written (30_encoding.md R170). -/
def lookupVal (vals : List (Nat × Value)) (k : Nat) : Option Value := (vals.find? fun p => p.1 == k).map (·.2)

/-- tK takes a value. -/
def assignVal (vals : List (Nat × Value)) (k : Nat) (v : Value) : List (Nat × Value) :=
  (k, v) :: vals.filter fun p => p.1 != k

/-- The result a program's tD takes (30_encoding.md R147, R170): of a status, its code. -/
def Value.first : Value → Value
  | .status r _ => .code r
  | .unit => .unit
  | .word w => .word w
  | .bool b => .bool b
  | .key k => .key k
  | .code r => .code r
  | .count n => .count n

/-- The second result, which tB takes: the busy flag of a status. No other result has one, nor has the EINVAL of GET_STATUS
(44_channel.md R332: "(EINVAL, –)"); tB then keeps its value: DESIGN CHOICE (log entry 41). -/
def Value.second : Value → Option Value
  | .status _ b => some (.bool b)
  | .unit | .word _ | .bool _ | .key _ | .code _ | .count _ => none

/-- A program value takes a value, if a line names one and there is one. -/
def assignOpt (vals : List (Nat × Value)) (k : Option Nat) (v : Option Value) : List (Nat × Value) :=
  match k, v with
  | some k, some v => assignVal vals k v
  | _, _ => vals

/-- The program values after an operation's result: tD, then tB (30_encoding.md R170). -/
def assignResult (vals : List (Nat × Value)) (d b : Option Nat) (v : Value) : List (Nat × Value) :=
  assignOpt (assignOpt vals d (some v.first)) b v.second

/-- The word tK holds. -/
def wordVal (vals : List (Nat × Value)) (k : Nat) : Option Word :=
  match lookupVal vals k with
  | some (.word w) => some w
  | _ => none

/-- The key tK holds. -/
def keyVal (vals : List (Nat × Value)) (k : Nat) : Option Key :=
  match lookupVal vals k with
  | some (.key q) => some q
  | _ => none

/-- An operand of a line: the one written in it, or the program value it names; `inr k` when tK holds no such value. -/
def operand {α : Type} (lit : α) (read : Nat → Option α) : Option Nat → α ⊕ Nat
  | none => .inl lit
  | some k => match read k with
    | some x => .inl x
    | none => .inr k

/-- The arguments of a line with its program values put in (30_encoding.md R170). A word used as an address is
zero-extended (00_scope.md R11). -/
def resolveArgs (vals : List (Nat × Value)) (l : ProgLine) : Args ⊕ Nat :=
  match operand l.args.v (wordVal vals) l.vFrom, operand l.args.a (fun k => (wordVal vals k).map (·.setWidth 64)) l.aFrom,
    operand l.args.key (keyVal vals) l.keyFrom with
  | .inl v, .inl a, .inl k => .inl { l.args with v := v, a := a, key := k }
  | .inr k, _, _ => .inr k
  | _, .inr k, _ => .inr k
  | _, _, .inr k => .inr k

end Sys2Proof.Machine
end

