-- ==== Sys2Proof/Machine/Platform.lean ====
section
/-! DEFINITION. The platform as the parameters give it: their constraints (00_scope.md R10), the bus's answers
(20_memory.md R111), and which addresses belong to the rings and to a cache line. -/

namespace Sys2Proof.Machine

/-- The first byte after the ring of a channel. -/
def ringEnd (p : Params) (c : Chan) : Nat := (p.ring.get c).toNat + descStride * p.cap.get c

/-- The address lies in the ring of a channel. -/
def inRingOf (p : Params) (c : Chan) (x : Nat) : Bool := decide ((p.ring.get c).toNat ≤ x) && decide (x < ringEnd p c)

/-- The address lies in either ring. -/
def inRing (p : Params) (x : Nat) : Bool := inRingOf p .tx x || inRingOf p .rx x

/-- Two areas [a, a+n) and [b, b+m) have no byte in common. -/
def apart (a n b m : Nat) : Bool := n == 0 || m == 0 || decide (a + n ≤ b) || decide (b + m ≤ a)

/-- A number is a power of two below 2^65. -/
def isPow2 (n : Nat) : Bool := (List.range 65).any fun k => 2 ^ k == n

/-- The ring of a channel is not empty, is aligned and lies inside the address space (00_scope.md R9, R10). -/
def ringValid (p : Params) (c : Chan) : Bool :=
  decide (1 ≤ p.cap.get c) && (p.ring.get c).toNat % descStride == 0 && decide (ringEnd p c ≤ 2 ^ p.addrBits)

/-- No data buffer area meets the ring of a channel (00_scope.md R10). -/
def buffersApart (p : Params) (c : Chan) : Bool :=
  p.bufs.all fun b => apart b.1 b.2 (p.ring.get c).toNat (descStride * p.cap.get c)

/-- The constraints on the parameters (00_scope.md R10), with the ranges R9 gives them. That parameters outside R9's ranges are
refused too, as those that break R10 are, is a DESIGN CHOICE (log entry 38). -/
def paramsValid (p : Params) : Bool :=
  decide (32 ≤ p.addrBits) && (decide (p.addrBits ≤ 64) && (ringValid p .tx && (ringValid p .rx
    && (apart (p.ring.get .tx).toNat (descStride * p.cap.get .tx) (p.ring.get .rx).toNat (descStride * p.cap.get .rx)
    && (buffersApart p .tx && (buffersApart p .rx && (isPow2 p.line
    && ((p.cacheMode == .coherent || 64 % p.line == 0) && (p.irq.tx != p.irq.rx
    && (decide (1 ≤ p.irqThreshold) && (decide (p.irqThreshold ≤ 255) && (decide (p.irqDelay ≤ 255)
    && (decide (1 ≤ p.resetRetries) && decide (p.csumWord ≤ 4))))))))))))))

/-- A bus rule speaks of an access. -/
def busCovers (r : BusRule) (a n : Nat) (write : Bool) : Bool :=
  (match r.dir with
    | .both => true
    | .read => !write
    | .write => write)
  && (match r.sel with
    | .touches lo hi => decide (a ≤ hi) && decide (lo < a + n)
    | .starts lo hi nLo nHi => decide (lo ≤ a) && decide (a ≤ hi) && decide (nLo ≤ n) && decide (n ≤ nHi))

/-- An access reaches an address at or above 2^P_ADDR_BITS; with 64-bit addresses none exists (20_memory.md R111, log
entry 6). -/
def beyondBus (p : Params) (a n : Nat) : Bool :=
  decide (p.addrBits < 64) && (decide (2 ^ p.addrBits ≤ a) || decide (2 ^ p.addrBits < a + n))

/-- P_BUS(a, n, READ or WRITE) (20_memory.md R111): DECERR beyond the address space, else the first rule that speaks of
the access, else OKAY. -/
def busResp (p : Params) (a : Addr) (n : Nat) (write : Bool) : BusResp :=
  if beyondBus p a.toNat n then .decerr
  else match p.bus.find? fun r => busCovers r a.toNat n write with
    | some r => r.resp
    | none => .okay

/-- The base of the cache line of an address (20_memory.md R124). -/
def lineBase (p : Params) (x : Nat) : Nat := x / p.line * p.line

/-- Host accesses to the address bypass the cache because the rings are mapped uncached (20_memory.md R125). -/
def uncachedRing (p : Params) (x : Nat) : Bool := p.descUncached && inRing p x

/-- Host accesses to the address go through the cache (20_memory.md R107, R108, R125). -/
def cacheable (p : Params) (x : Nat) : Bool := p.cacheMode == .noncoherent && !uncachedRing p x

/-- A cache line meets the range [a, a+n) of addresses modulo 2^64 (20_memory.md R124, log entry 18). -/
def lineMeets (p : Params) (base a n : Nat) : Bool :=
  n != 0 && ((decide (base < a + n) && decide (a < base + p.line)) || decide (base + 2 ^ 64 < a + n))

end Sys2Proof.Machine
end

