-- ==== Sys2Proof/Machine/Ops.lean ====
section
/-! DEFINITION. The named operations over memory, the host's memory path, the engine's state, the draws, the running
context and the interrupt contexts: taking an interrupt and returning from one among them. -/

namespace Sys2Proof.Machine

/-! Memory (20_memory.md R102, R104, R105). -/

/-- The byte at an address. -/
def Memory.read : Memory → Nat → Byte
  | [], _ => Memory.blank
  | (k, b) :: m, a => if k = a then b else Memory.read m a

/-- One byte stored, the canonical form kept. -/
def Memory.write : Memory → Nat → Byte → Memory
  | [], a, b => if b = Memory.blank then [] else [(a, b)]
  | (k, c) :: m, a, b =>
    if a < k then if b = Memory.blank then (k, c) :: m else (a, b) :: (k, c) :: m
    else if a = k then if b = Memory.blank then m else (a, b) :: m
    else (k, c) :: Memory.write m a b

/-- `n` bytes in ascending addresses from `a`, modulo 2^64 (00_scope.md R11). -/
def Memory.readBytes (m : Memory) : Nat → Nat → List Byte
  | _, 0 => []
  | a, n + 1 => m.read (a % 2 ^ 64) :: Memory.readBytes m (a + 1) n

/-- Bytes stored in ascending addresses from `a`, modulo 2^64. -/
def Memory.writeBytes (m : Memory) (a : Nat) : List Byte → Memory
  | [] => m
  | b :: bs => Memory.writeBytes (m.write (a % 2 ^ 64) b) (a + 1) bs

/-- The little-endian word at an address (20_memory.md R102). -/
def Memory.readWord (m : Memory) (a : Addr) : Word :=
  wordOfBytes (m.read a.toNat) (m.read ((a.toNat + 1) % 2 ^ 64)) (m.read ((a.toNat + 2) % 2 ^ 64))
    (m.read ((a.toNat + 3) % 2 ^ 64))

/-! The draws (00_scope.md R12). -/

/-- The k-th draw from now: the run's own, or the free choice where the run gives none (log entry 2). -/
def State.choice (s : State) (k : Nat) : Nat :=
  match s.draws.drop k with
  | v :: _ => v
  | [] => Config.freeDraw (s.drawNo + (k - s.draws.length))

/-- The next `k` draws are made. -/
def State.spend (s : State) (k : Nat) : State :=
  { s with draws := s.draws.drop k, drawNo := s.drawNo + (k - s.draws.length) }

/-! The running context (10_state.md R61). -/

/-- The running context: the newest interrupt context, else the thread. -/
def State.running (s : State) : Ctx :=
  match s.irqs with
  | [] => s.thread
  | i :: _ => i.ctx

/-- The thread after the running context becomes `x`. -/
def threadWith (irqs : List IrqCtx) (thread x : Ctx) : Ctx :=
  match irqs with
  | [] => x
  | _ :: _ => thread

/-- The interrupt contexts after the running context becomes `x`. -/
def irqsWith (irqs : List IrqCtx) (x : Ctx) : List IrqCtx :=
  match irqs with
  | [] => []
  | i :: t => { i with ctx := x } :: t

/-- The running context becomes `x`. -/
def State.setRunning (s : State) (x : Ctx) : State :=
  { s with thread := threadWith s.irqs s.thread x, irqs := irqsWith s.irqs x }

/-- The running context's code. -/
def State.code (s : State) : List Item := s.running.code

/-- The running context's code becomes `is`. -/
def State.setCode (s : State) (is : List Item) : State := s.setRunning { s.running with code := is }

/-- `is` is to be run before the running context's code. -/
def State.push (s : State) (is : List Item) : State := s.setCode (is ++ s.code)

/-- The value the running context's last operation returned. -/
def State.ret (s : State) : Value := s.running.ret

/-- The operation returns `v` to the running context. -/
def State.answer (s : State) (v : Value) : State := s.setRunning { s.running with ret := v }

/-- The running context's program values tD and tB take the result `v`. -/
def State.assign (s : State) (d b : Option Nat) (v : Value) : State :=
  s.setRunning { s.running with vals := assignResult s.running.vals d b v }

/-! Updates of one part. -/

def State.setEng (s : State) (c : Chan) (e : Eng) : State := { s with eng := s.eng.set c e }

def State.setRec (s : State) (c : Chan) (r : Record) : State := { s with ch := s.ch.set c r }

def State.setMem (s : State) (m : Memory) : State := { s with mem := m }

def State.setCache (s : State) (ls : List CacheLine) : State := { s with cache := ls }

/-- en[l] of a channel's line (10_state.md R60). -/
def State.setEn (s : State) (c : Chan) (b : Bool) : State :=
  { s with lines := s.lines.set c { s.lines.get c with en := b } }

/-- The handler of a channel's line is installed (45_interrupt.md R351). -/
def State.install (s : State) (c : Chan) : State :=
  { s with lines := s.lines.set c { s.lines.get c with inst := true } }

/-! The store buffer (20_memory.md R106 to R108). -/

/-- The value of the youngest entry for a word. -/
def sbLookup : List SbEntry → Addr → Option Word
  | [], _ => none
  | e :: t, a => match sbLookup t a with
    | some v => some v
    | none => if e.addr = a then some e.val else none

/-- The words that have an entry, each at its oldest entry's place: one of them drains next (R107). -/
def sbWords : List SbEntry → List Addr
  | [] => []
  | e :: t => e.addr :: (sbWords t).filter fun a => a != e.addr

/-- The oldest entry for a word. -/
def sbOldest (sb : List SbEntry) (a : Addr) : Option SbEntry := sb.find? fun e => e.addr == a

/-- The buffer without its oldest entry for a word. -/
def sbRemove : List SbEntry → Addr → List SbEntry
  | [], _ => []
  | e :: t, a => if e.addr = a then t else e :: sbRemove t a

/-- A store joins the buffer (R106). -/
def State.buffer (s : State) (a : Addr) (v : Word) : State := { s with sb := s.sb ++ [⟨a, v⟩] }

/-! The cache (20_memory.md R124). -/

/-- The cached line with a base. -/
def cacheFind (ls : List CacheLine) (base : Nat) : Option CacheLine := ls.find? fun l => l.base == base

/-- A line put in its place by rising base, instead of the one with its base if there is one. -/
def cachePut : List CacheLine → CacheLine → List CacheLine
  | [], x => [x]
  | l :: t, x =>
    if x.base < l.base then x :: l :: t
    else if x.base = l.base then x :: t
    else l :: cachePut t x

/-- The cache without the line of a base. -/
def cacheDrop (ls : List CacheLine) (base : Nat) : List CacheLine := ls.filter fun l => l.base != base

/-- A line as memory holds it, clean. -/
def cleanLine (p : Params) (m : Memory) (base : Nat) : CacheLine := ⟨base, m.readBytes base p.line, false⟩

/-- The line of an address is in the cache. -/
def State.isCached (s : State) (x : Nat) : Bool := (cacheFind s.cache (lineBase s.cfg x)).isSome

/-- The line of an address is allocated clean from memory, if the address is cacheable and its line is not cached
(R108 case 3, R124 fill). -/
def State.fillLine (s : State) (x : Nat) : State :=
  if cacheable s.cfg x && !s.isCached x then
    s.setCache (cachePut s.cache (cleanLine s.cfg s.mem (lineBase s.cfg x)))
  else s

/-- A line with one byte stored in it: dirty. -/
def dirtied (l : CacheLine) (x : Nat) (b : Byte) : CacheLine :=
  { l with bytes := l.bytes.set (x - l.base) b, dirty := true }

/-- One byte of a draining store (R107): into the cached line; or, where its line is not cached, into a line filled
now (`alloc`) or straight into memory. -/
def State.drainByte (s : State) (alloc : Bool) (x : Nat) (b : Byte) : State :=
  if cacheable s.cfg x then
    match cacheFind s.cache (lineBase s.cfg x) with
    | some l => s.setCache (cachePut s.cache (dirtied l x b))
    | none =>
      if alloc then s.setCache (cachePut s.cache (dirtied (cleanLine s.cfg s.mem (lineBase s.cfg x)) x b))
      else s.setMem (s.mem.write x b)
  else s.setMem (s.mem.write x b)

/-- The bytes of a draining store, in ascending addresses. -/
def State.drainBytes (s : State) (alloc : Bool) (x : Nat) : List Byte → State
  | [] => s
  | b :: bs => (s.drainByte alloc (x % 2 ^ 64) b).drainBytes alloc (x + 1) bs

/-- One byte as the host's path sees it below the store buffer: cached, else in memory (R108). -/
def State.hostByte (s : State) (x : Nat) : Byte :=
  if cacheable s.cfg x then
    match cacheFind s.cache (lineBase s.cfg x) with
    | some l => l.bytes.getD (x - l.base) Memory.blank
    | none => s.mem.read x
  else s.mem.read x

/-- The word as the host's path sees it below the store buffer (R108 cases 2 and 3). -/
def State.hostWord (s : State) (a : Addr) : Word :=
  wordOfBytes (s.hostByte a.toNat) (s.hostByte ((a.toNat + 1) % 2 ^ 64)) (s.hostByte ((a.toNat + 2) % 2 ^ 64))
    (s.hostByte ((a.toNat + 3) % 2 ^ 64))

/-- The word a load returns (R108): the youngest store-buffer entry, else the cache, else memory. -/
def State.loadWord (s : State) (a : Addr) : Word := (sbLookup s.sb a).getD (s.hostWord a)

/-- The addresses of a word's bytes whose cacheable line is not cached. -/
def State.uncachedBytes (s : State) (a : Addr) : List Nat :=
  ((List.range 4).map fun k => (a.toNat + k) % 2 ^ 64).filter fun x => cacheable s.cfg x && !s.isCached x

/-- The lines of some addresses are allocated. -/
def State.fillLines (s : State) : List Nat → State
  | [] => s
  | x :: xs => (s.fillLine x).fillLines xs

/-- The cache after a load (R108): in case 3 of a cacheable word a draw decides whether the line is allocated. -/
def State.afterLoad (s : State) (a : Addr) : State :=
  if (sbLookup s.sb a).isNone && !(s.uncachedBytes a).isEmpty then
    (if drawnBool (s.choice 0) then s.fillLines (s.uncachedBytes a) else s).spend 1
  else s

/-- The lines' bytes put in memory, for the dirty ones among those `sel` picks (R124). -/
def writeBack (sel : CacheLine → Bool) (m : Memory) : List CacheLine → Memory
  | [] => m
  | l :: t => writeBack sel (if sel l && l.dirty then m.writeBytes l.base l.bytes else m) t

/-- The lines that maintenance of [a, a+n) concerns (R124, R125). -/
def maintained (p : Params) (a n : Nat) (l : CacheLine) : Bool :=
  lineMeets p l.base a n && !uncachedRing p l.base

/-- DC_FLUSH's effect (41_host_primitives.md R223). -/
def State.flush (s : State) (a n : Nat) : State :=
  if s.cfg.cacheMode = .coherent then s
  else
    { s with
      mem := writeBack (maintained s.cfg a n) s.mem s.cache
      cache := s.cache.map fun l => if maintained s.cfg a n l then { l with dirty := false } else l }

/-- DC_INVAL's effect (41_host_primitives.md R224). -/
def State.invalidate (s : State) (a n : Nat) : State :=
  if s.cfg.cacheMode = .coherent then s
  else s.setCache (s.cache.filter fun l => !maintained s.cfg a n l)

/-! Engine accesses to the device view (20_memory.md R104, R105). -/

/-- MemWrite (R105): the bytes are stored if P_BUS accepts the write of this range, and memory is unchanged otherwise; the
answer is for the error path of the rule that made it. -/
def State.memWrite (s : State) (a : Addr) (bs : List Byte) : State × BusResp :=
  match busResp s.cfg a bs.length true with
  | .okay => (s.setMem (s.mem.writeBytes a.toNat bs), .okay)
  | r => (s, r)

/-- MemWrites in a row, up to the first that is refused. -/
def State.memWrites (s : State) : List (Addr × List Byte) → State × BusResp
  | [] => (s, .okay)
  | (a, bs) :: ws => match s.memWrite a bs with
    | (t, .okay) => t.memWrites ws
    | (t, r) => (t, r)

/-- The descriptor the engine reads at an address: 13 words in one step (42_engine_sequencer.md R255). -/
def fetchSnap (m : Memory) (a : Addr) : Snap where
  addr := a
  nxtdesc := m.readWord a
  nxtdescMsb := m.readWord (a + 0x04)
  buf := m.readWord (a + 0x08)
  bufMsb := m.readWord (a + 0x0C)
  rsvd0 := m.readWord (a + 0x10)
  rsvd1 := m.readWord (a + 0x14)
  control := m.readWord (a + 0x18)
  status := m.readWord (a + 0x1C)
  app := ⟨m.readWord (a + 0x20), m.readWord (a + 0x24), m.readWord (a + 0x28), m.readWord (a + 0x2C),
    m.readWord (a + 0x30)⟩

/-- The buffer address of a fetched descriptor (30_encoding.md R163). -/
def Snap.bufAddr (x : Snap) : Addr := joinPtr x.bufMsb x.buf

/-- The next pointer of a fetched descriptor (R163). -/
def Snap.next (x : Snap) : Addr := joinPtr x.nxtdescMsb x.nxtdesc

/-! The soft reset (42_engine_sequencer.md R280). -/

/-- A channel after a soft reset: the values of 10_state.md R80; snap and xres are unspecified, so they are free. -/
def Eng.softReset (snap xres : Nat) : Eng :=
  { Eng.boot with snap := drawnSnap snap, xres := drawnXRes xres }

/-- SOFT_RESET (40_register_interface.md R184): both channels, whichever carries it. -/
def State.softReset (s : State) : State :=
  { s.spend 4 with
    eng := ⟨Eng.softReset (s.choice 0) (s.choice 1), Eng.softReset (s.choice 2) (s.choice 3)⟩
    rstBusy := true }

/-! Interrupts (60_exceptions.md R425, R426). -/

/-- The line of a channel is asserted, enabled and has its handler (R425). -/
def State.lineReady (s : State) (c : Chan) : Bool :=
  match lineOwner s.cfg (s.ch.get c).irq with
  | some o => (s.lines.get o).en && (s.lines.get o).inst
  | none => false

/-- IRQ_TAKE is enabled (R425). -/
def State.canTakeIrq (s : State) (c : Chan) : Bool :=
  irqOut (s.eng.get c) && s.lineReady c && s.gie && !(s.irqs.any fun i => i.line == (s.ch.get c).irq)
    && (s.cfg.nestedIrq || s.irqs.isEmpty)

/-- The context an interrupt starts: at the start of ISR(c) (R425). -/
def isrCtx (c : Chan) : Ctx := { Ctx.idle with code := [.op (.isr (chanNum c))] }

/-- Taking an interrupt: the running context keeps its position, and a context at the start of ISR(c) is pushed.
Nothing else changes (R425). -/
def State.takeIrq (s : State) (c : Chan) : State :=
  { s with irqs := ⟨c, (s.ch.get c).irq, isrCtx c⟩ :: s.irqs }

/-- The interrupt contexts when the newest has returned, if it has run its last step (R426). -/
def settleIrqs : List IrqCtx → List IrqCtx
  | [] => []
  | i :: t => if i.ctx.code.isEmpty then t else i :: t

/-- Returning from an interrupt: a context that has run its last step is popped, and the one below resumes where it
was. Nothing else changes (R426). -/
def State.settle (s : State) : State := { s with irqs := settleIrqs s.irqs }

/-! Outcomes. -/

/-- A next state is given one more change. -/
def mapNext (f : State → State) : Res → Res
  | .next s => .next (f s)
  | .fault e => .fault e
  | .refused r => .refused r

/-- The checks of 43_ring.md R310 that each internal procedure makes at entry, the channel first (60_exceptions.md R415, log
entry 13). -/
def withReady (c : Nat) (s : State) (f : Chan → Res) : Res :=
  match chanOf c with
  | none => .fault .badConfiguration
  | some ch => if s.ctl = .ready then f ch else .fault .deviceUnusable

/-- The checks of a framework entry point: a bad channel is a result code, an unready device a fault (R330, R331,
R332, R365, R370). -/
def withChannel (c : Nat) (s : State) (f : Chan → Res) : Res :=
  match chanOf c with
  | none => .next (s.answer (.code .einval))
  | some ch => if s.ctl = .ready then f ch else .fault .deviceUnusable

/-- The channel has been configured (43_ring.md R310). -/
def whenConfigured (c : Chan) (s : State) (r : Res) : Res :=
  if (s.ch.get c).configured then r else .fault (.unconfiguredChannel c)

end Sys2Proof.Machine
end

