-- ==== Sys2Proof/Machine/Engine.lean ====
section
/-! DEFINITION. The engine sequencer's autonomous steps (42_engine_sequencer.md R250 to R281). A step offered while it is
not enabled is not taken: nothing changes (log entry 3). -/

namespace Sys2Proof.Machine

/-- A step that is taken only where it is enabled. -/
def whenEnabled (b : Bool) (s : State) (r : Res) : Res := if b then r else .next s

/-- No engine step is enabled during a soft reset (R251). -/
def State.engineRuns (s : State) : Bool := !s.rstBusy

/-- E_HALT is enabled (R253). -/
def State.haltEnabled (s : State) (c : Chan) : Bool :=
  s.engineRuns && ((s.eng.get c).phase == .idle || (s.eng.get c).phase == .fetch) && !(s.eng.get c).cr.rs

/-- E_FETCH is enabled (R255). -/
def State.fetchEnabled (s : State) (c : Chan) : Bool :=
  s.engineRuns && (s.eng.get c).phase == .fetch && (s.eng.get c).cr.rs

/-- E_XFER is enabled (R258, R259). -/
def State.xferEnabled (s : State) (c : Chan) : Bool := s.engineRuns && (s.eng.get c).phase == .xfer

/-- E_WB is enabled (R261). -/
def State.wbEnabled (s : State) (c : Chan) : Bool := s.engineRuns && (s.eng.get c).phase == .wb

/-- E_DELAY is enabled (R271). -/
def State.delayEnabled (s : State) (c : Chan) : Bool :=
  s.engineRuns && (s.eng.get c).armed && (s.eng.get c).cr.irqDelay != 0

/-- E_HALT (R253). -/
def execEHalt (c : Chan) (s : State) : Res :=
  whenEnabled (s.haltEnabled c) s (.next (s.setEng c { s.eng.get c with phase := .halted }))

/-- E_FETCH's effect (R255 to R257): CURDESC takes FP before any check; then the bus, CMPLT and zero-length checks in
that order (60_exceptions.md R422 c). -/
def fetchStep (c : Chan) (s : State) : State :=
  let e := s.eng.get c
  let e1 := { e with curdesc := e.fp }
  match busResp s.cfg e.fp 52 false with
  | .okay =>
    let sn := fetchSnap s.mem e.fp
    let e2 := { e1 with snap := sn }
    if cmpltBit sn.status then s.setEng c (fetchError .interr e2)
    else if lenField sn.control = 0 then
      (s.setEng c { e2 with
        xres := ⟨0, .interr, drawnBool (s.choice 0), drawnBool (s.choice 1), sn.app⟩
        phase := .wb }).spend 2
    else s.setEng c { e2 with phase := .xfer }
  | .slverr => s.setEng c (fetchError .slverr e1)
  | .decerr => s.setEng c (fetchError .decerr e1)

/-- E_FETCH (R255). -/
def execEFetch (c : Chan) (s : State) : Res := whenEnabled (s.fetchEnabled c) s (.next (fetchStep c s))

/-- E_XFER of TX (R258): the leg goes to the outbound stream, or the bus error is kept for the writeback. -/
def xferTxStep (s : State) : State :=
  let e := s.eng.tx
  let len := lenField e.snap.control
  let buf := e.snap.bufAddr
  match busResp s.cfg buf len.toNat false with
  | .okay =>
    { s.setEng .tx { e with xres := { e.xres with n := len, resp := .okay }, phase := .wb } with
      outs := s.outs ++ [⟨s.mem.readBytes buf.toNat len.toNat, sofBit e.snap.control, eofBit e.snap.control,
        e.snap.app⟩] }
  | r => s.setEng .tx { e with xres := { e.xres with n := 0, resp := XResp.ofBus r }, phase := .wb }

/-- E_XFER TX (R258). -/
def execEXferTx (s : State) : Res := whenEnabled (s.xferEnabled .tx) s (.next (xferTxStep s))

/-- E_XFER of RX (R259): the environment draws the byte count n ≤ len, the frame flags (a short leg ends a frame), the
data and the status words. -/
def xferRxStep (s : State) : State :=
  let e := s.eng.rx
  let len := (lenField e.snap.control).toNat
  let buf := e.snap.bufAddr
  let n := s.choice 0 % (len + 1)
  let eof := decide (n < len) || drawnBool (s.choice 1)
  let sof := drawnBool (s.choice 2)
  let app := drawnApp (s.choice 4)
  let r := if n = 0 then .okay else busResp s.cfg buf n true
  let s1 := s.spend 5
  match r with
  | .okay =>
    (s1.setMem (s.mem.writeBytes buf.toNat (drawnBytes n (s.choice 3)))).setEng .rx
      { e with xres := ⟨BitVec.ofNat 26 n, .okay, eof, sof, app⟩, phase := .wb }
  | r => s1.setEng .rx { e with xres := ⟨0, XResp.ofBus r, eof, sof, app⟩, phase := .wb }

/-- E_XFER RX (R259). -/
def execEXferRx (s : State) : Res := whenEnabled (s.xferEnabled .rx) s (.next (xferRxStep s))

/-- The address of a descriptor's STATUS word (30_encoding.md R160). -/
def statusAddr (a : Addr) : Addr := a + 0x1C

/-- The MemWrites of E_WB on the descriptor at an address (R261): STATUS, and on RX the five APP words. -/
def wbWrites (c : Chan) (a : Addr) (x : XRes) : List (Addr × List Byte) :=
  match c with
  | .tx => [(statusAddr a, wordBytes (statusWord .tx x))]
  | .rx => [(statusAddr a, wordBytes (statusWord .rx x)), (a + appOffset 0, appBytes x.app)]

/-- The byte count of a writeback: RX writes STATUS and APP0..APP4, TX writes STATUS alone (R261). -/
def wbSpan : Chan → Nat
  | .tx => 4
  | .rx => 24

/-- Where the walk goes after a successful writeback (R262). -/
def nextPhase (e : Eng) : Phase :=
  if !e.cr.rs then .halted else if e.curdesc = e.taildesc then .idle else .fetch

/-- The channel after a writeback that the bus accepted (R261, R262), FP at the next descriptor. -/
def wbDone (e : Eng) : Eng :=
  match e.xres.resp with
  | .okay =>
    let e1 := completionEvent { e with fp := e.snap.next }
    { e1 with phase := nextPhase e1 }
  | r => errorCompletion (completionEvent { e with sr := setDmaErr r e.sr, fp := e.snap.next })

/-- The channel after a writeback the bus refused: its SG bit, and FP unchanged (R261, R260). -/
def wbRefused (r : BusResp) (e : Eng) : Eng := errorCompletion { e with sr := setSgErr (XResp.ofBus r) e.sr }

/-- E_WB's effect (R261): P_BUS is asked for the whole span, and then each MemWrite asks it for its own range (20_memory.md
R105). A refusal is reported instead of any transfer error (60_exceptions.md R422 d). That a STATUS the bus accepted stays
written where it then refuses the APP words is DEDUCED (log entry 36). -/
def wbStep (c : Chan) (s : State) : Res :=
  let e := s.eng.get c
  match busResp s.cfg (statusAddr e.snap.addr) (wbSpan c) true with
  | .okay => match s.memWrites (wbWrites c e.snap.addr e.xres) with
    | (t, .okay) =>
      if !aligned64 e.snap.next then .fault (.misalignedDescriptorPointer c e.snap.next)
      else .next (t.setEng c (wbDone e))
    | (t, r) => .next (t.setEng c (wbRefused r e))
  | r => .next (s.setEng c (wbRefused r e))

/-- E_WB (R261). -/
def execEWb (c : Chan) (s : State) : Res := whenEnabled (s.wbEnabled c) s (wbStep c s)

/-- The channel after the delay interrupt (R271). -/
def delayFired (e : Eng) : Eng :=
  { e with sr := { e.sr with dlyIrq := true }, cnt := e.cr.irqThreshold, armed := false }

/-- E_DELAY (R271). -/
def execEDelay (c : Chan) (s : State) : Res :=
  whenEnabled (s.delayEnabled c) s (.next (s.setEng c (delayFired (s.eng.get c))))

/-- E_RESET_DONE (R281). -/
def execEResetDone (s : State) : Res := whenEnabled s.rstBusy s (.next { s with rstBusy := false })

end Sys2Proof.Machine
end

