-- ==== Sys2Proof/Machine/Env.lean ====
section
/-! DEFINITION. The environment's steps on the host's memory path (20_memory.md R107, R124) and interrupt entry
(60_exceptions.md R425). A step offered while it is not enabled is not taken: nothing changes (log entry 3). -/

namespace Sys2Proof.Machine

/-- The word whose store drains, for a draw: one of those with an entry (R107). -/
def State.drainWord (s : State) (d : Nat) : Addr := (sbWords s.sb).getD (d % (sbWords s.sb).length) 0

/-- ENV_DRAIN's effect on the oldest entry of the drawn word (R107): the draw also decides whether an uncached line is
filled. A drain where P_BUS is not OKAY is refused (R111). -/
def drainStep (s : State) : Res :=
  let a := s.drainWord (s.choice 0)
  match sbOldest s.sb a with
  | none => .next s
  | some e =>
    if busResp s.cfg a 4 true ≠ .okay then .fault (.hostBusError a)
    else
      .next ({ s with sb := sbRemove s.sb a }.drainBytes (drawnBool (s.choice 0 / (sbWords s.sb).length)) a.toNat
        (wordBytes e.val) |>.spend 1)

/-- ENV_DRAIN (R107). -/
def execEnvDrain (s : State) : Res := whenEnabled (!s.sb.isEmpty) s (drainStep s)

/-- The lines that can be evicted: every cached line but those of a host-uncached ring (R124, R125). -/
def State.evictable (s : State) : List CacheLine :=
  if s.cfg.cacheMode = .coherent then [] else s.cache.filter fun l => !uncachedRing s.cfg l.base

/-- A line leaves the cache, its bytes going to memory if it is dirty (R124). -/
def State.evictLine (s : State) (l : CacheLine) : State :=
  { s with
    mem := if l.dirty then s.mem.writeBytes l.base l.bytes else s.mem
    cache := cacheDrop s.cache l.base }

/-- ENV_EVICT (R124): a draw picks the line. -/
def execEnvEvict (s : State) : Res :=
  match s.evictable[s.choice 0 % s.evictable.length]? with
  | none => .next s
  | some l => .next ((s.evictLine l).spend 1)

/-- ENV_FILL (R124): a draw picks an address; its line is copied clean from memory if it may be and is not cached. -/
def execEnvFill (s : State) : Res :=
  whenEnabled (s.cfg.cacheMode == .noncoherent) s (.next ((s.fillLine (s.choice 0 % 2 ^ 64)).spend 1))

/-- IRQ_TAKE (60_exceptions.md R425). -/
def execIrqTake (c : Chan) (s : State) : Res := whenEnabled (s.canTakeIrq c) s (.next (s.takeIrq c))

end Sys2Proof.Machine
end

