-- ==== Sys2Proof/Machine/HostPrim.lean ====
section
/-! DEFINITION. The host primitives (41_host_primitives.md R220 to R233). Each is one step of the running context. -/

namespace Sys2Proof.Machine

/-- LD32 (R220). -/
def execLd32 (a : Addr) (s : State) : Res :=
  if !aligned4 a then .fault (.misalignedHostAccess a)
  else if busResp s.cfg a 4 false ≠ .okay then .fault (.hostBusError a)
  else .next ((s.afterLoad a).answer (.word (s.loadWord a)))

/-- ST32 (R221): the store joins the store buffer; P_BUS is asked when it drains. -/
def execSt32 (a : Addr) (v : Word) (s : State) : Res :=
  if !aligned4 a then .fault (.misalignedHostAccess a) else .next ((s.buffer a v).answer .unit)

/-- FENCE (R222): complete when the store buffer is empty; until then the context stays before it. -/
def execFence (s : State) : Res :=
  if s.sb.isEmpty then .next (s.answer .unit) else .next (s.push [.op .fence])

/-- DC_FLUSH (R223). -/
def execDcFlush (a : Addr) (n : Nat) (s : State) : Res := .next ((s.flush a.toNat n).answer .unit)

/-- DC_INVAL (R224). -/
def execDcInval (a : Addr) (n : Nat) (s : State) : Res := .next ((s.invalidate a.toNat n).answer .unit)

/-- An operation on one of the two lines; any other line is refused (R225). -/
def onLine (l : Nat) (s : State) (f : Chan → State) : Res :=
  match lineOwner s.cfg l with
  | some o => .next (f o)
  | none => .fault .badConfiguration

/-- IRQ_ENABLE (R225). -/
def execIrqEnable (l : Nat) (s : State) : Res := onLine l s fun o => (s.setEn o true).answer .unit

/-- IRQ_DISABLE (R226). -/
def execIrqDisable (l : Nat) (s : State) : Res := onLine l s fun o => (s.setEn o false).answer .unit

/-- IRQ_IS_ENABLED (R227): the line's enable, not gie. -/
def execIrqIsEnabled (l : Nat) (s : State) : Res := onLine l s fun o => s.answer (.bool (s.lines.get o).en)

/-- CS_ENTER (R228): mask, and return a key that holds the prior mask. Only the CHANNEL_LINE mode reads the channel; a
number that names none is refused there (log entry 14). -/
def execCsEnter (c : Nat) (s : State) : Res :=
  match s.cfg.csMode with
  | .global => .next ({ s with gie := false }.answer (.key (.global s.gie)))
  | .bothLines =>
    .next (((s.setEn .tx false).setEn .rx false).answer (.key (.both s.lines.tx.en s.lines.rx.en)))
  | .channelLine =>
    match chanOf c with
    | none => .fault .badConfiguration
    | some ch => onLine (s.ch.get ch).irq s fun o =>
        (s.setEn o false).answer (.key (.line (s.ch.get ch).irq (s.lines.get o).en))

/-- CS_EXIT (R229): the mask the key holds comes back. -/
def execCsExit (key : Key) (s : State) : Res :=
  match key with
  | .global g => .next ({ s with gie := g }.answer .unit)
  | .both t r => .next (((s.setEn .tx t).setEn .rx r).answer .unit)
  | .line l e => onLine l s fun o => (s.setEn o e).answer .unit

/-- SLEEP (R230): a scheduling point; no modelled state changes but the value returned. -/
def execSleep (s : State) : Res := .next (s.answer .unit)

/-- The next callback body: the run's own, or the free choice where the run gives none; driver procedure calls only
(R231). That a call on a number that names no channel stays in it is a DESIGN CHOICE, as the list is (log entry 4). -/
def State.nextBody (s : State) : List Instr :=
  (match s.bodies with
    | b :: _ => b
    | [] => Config.freeBody s.bodyNo).filter fun i => decide (i.opClass = OpClass.proc)

/-- One body is taken. -/
def State.takeBody (s : State) : State :=
  { s with bodies := s.bodies.drop 1, bodyNo := s.bodyNo + (1 - s.bodies.length) }

/-- CBLOG.append (R231). -/
def State.logCallback (s : State) (c : Chan) (r : CbResult) : State :=
  { s with cblog := s.cblog ++ [⟨c, (s.ch.get c).ud, r⟩] }

/-- CALLBACK (R231): the entry is logged and the body, an environment choice, runs next in the same context. -/
def execCallback (c : Nat) (r : CbResult) (s : State) : Res :=
  match chanOf c with
  | none => .fault .badConfiguration
  | some ch => .next (((s.logCallback ch r).takeBody.answer .unit).push (s.nextBody.map .op))

/-- LOG (R232). -/
def execLog (msg : String) (s : State) : Res := .next ({ s with logs := s.logs ++ [msg] }.answer .unit)

end Sys2Proof.Machine
end

