-- ==== Sys2Proof/Machine/Mmio.lean ====
section
/-! DEFINITION. MMIO reads and writes of the register block (40_register_interface.md R180 to R188). -/

namespace Sys2Proof.Machine

/-- The six registers of a channel (10_state.md R41). -/
inductive Reg
  | dmacr
  | dmasr
  | curdescLsb
  | curdescMsb
  | taildescLsb
  | taildescMsb
  deriving DecidableEq, Repr

/-- The offset of a register within its channel's block (30_encoding.md R145). -/
def regOffset : Reg → Nat
  | .dmacr => 0x00
  | .dmasr => 0x04
  | .curdescLsb => 0x08
  | .curdescMsb => 0x0C
  | .taildescLsb => 0x10
  | .taildescMsb => 0x14

/-- The offset of a channel's block (R145). -/
def blockOffset : Chan → Nat
  | .tx => 0x00
  | .rx => 0x30

/-- The offset of a register from P_BASE (R145). -/
def mmioOffset (c : Chan) (r : Reg) : Byte := BitVec.ofNat 8 (blockOffset c + regOffset r)

/-- The value a read returns (R180); DMACR and DMASR take one draw. -/
def regValue (s : State) (c : Chan) : Reg → Word
  | .dmacr => dmacrRead (s.eng.get c).cr s.rstBusy (s.choice 0)
  | .dmasr => dmasrRead (s.eng.get c) (s.choice 0)
  | .curdescLsb => lo32 (s.eng.get c).curdesc
  | .curdescMsb => hi32 (s.eng.get c).curdesc
  | .taildescLsb => lo32 (s.eng.get c).taildesc
  | .taildescMsb => hi32 (s.eng.get c).taildesc

/-- The number of draws a read makes. -/
def regDraws : Reg → Nat
  | .dmacr | .dmasr => 1
  | .curdescLsb | .curdescMsb | .taildescLsb | .taildescMsb => 0

/-- RD32 of a register (R180): allowed during a reset, no side effect. -/
def mmioRead (c : Chan) (r : Reg) (s : State) : Res :=
  .next ((s.spend (regDraws r)).answer (.word (regValue s c r)))

/-- WRITE_THRESHOLD (R185): the countdown restarts only when the threshold changes. -/
def writeThreshold (e : Eng) (t : BitVec 8) : Eng :=
  if t = e.cr.irqThreshold then e else { e with cr := { e.cr with irqThreshold := t }, cnt := t }

/-- IRQ_THRESHOLD and IRQ_DELAY of a DMACR write value (10_state.md R42). -/
def thresholdField (v : Word) : BitVec 8 := v.extractLsb' 16 8

def delayField (v : Word) : BitVec 8 := v.extractLsb' 24 8

/-- The channel after a DMACR write that neither resets nor asks for an excluded mode (R182), `t` being the threshold
stored. -/
def writeCr (e : Eng) (v : Word) (t : BitVec 8) : Eng :=
  let e1 := { e with
    cr := { e.cr with
      rs := v.getLsbD 0, iocIrqEn := v.getLsbD 12, dlyIrqEn := v.getLsbD 13, errIrqEn := v.getLsbD 14
      irqDelay := delayField v }
    phase := if v.getLsbD 0 && e.phase == .halted then .idle else e.phase }
  writeThreshold e1 t

/-- WRITE_DMACR (R182 to R185). A threshold of 0 stores a draw in 1..255. -/
def writeDmacr (c : Chan) (v : Word) (s : State) : Res :=
  if v.getLsbD 3 || v.getLsbD 4 then .fault (.unmodelledMode c v)
  else if v.getLsbD 2 then .next (s.softReset.answer .unit)
  else if thresholdField v = 0 then
    .next (((s.setEng c (writeCr (s.eng.get c) v (drawnThreshold (s.choice 0)))).spend 1).answer .unit)
  else .next ((s.setEng c (writeCr (s.eng.get c) v (thresholdField v))).answer .unit)

/-- The channel after a DMASR write: write-1-to-clear of the three pending bits (R188). -/
def ackDmasr (e : Eng) (v : Word) : Eng :=
  { e with sr := { e.sr with
      iocIrq := e.sr.iocIrq && !v.getLsbD 12
      dlyIrq := e.sr.dlyIrq && !v.getLsbD 13
      errIrq := e.sr.errIrq && !v.getLsbD 14 } }

/-- WRITE_DMASR (R188). -/
def writeDmasr (c : Chan) (v : Word) (s : State) : Res :=
  .next ((s.setEng c (ackDmasr (s.eng.get c) v)).answer .unit)

/-- WRITE_CURDESC (R186): FP follows; `p` is the pointer with the written half put in. -/
def setCurdesc (c : Chan) (p : Addr) (s : State) : Res :=
  .next ((s.setEng c { s.eng.get c with curdesc := p, fp := p }).answer .unit)

/-- WRITE_CURDESC of the low half (R186). -/
def writeCurdescLsb (c : Chan) (v : Word) (s : State) : Res :=
  if (s.eng.get c).phase ≠ .halted then .fault (.curdescWhileRunning c)
  else if !alignedLow v then .fault (.misalignedDescriptorPointer c (v.setWidth 64))
  else setCurdesc c (joinPtr (hi32 (s.eng.get c).curdesc) v) s

/-- WRITE_CURDESC of the high half (R186). -/
def writeCurdescMsb (c : Chan) (v : Word) (s : State) : Res :=
  if (s.eng.get c).phase ≠ .halted then .fault (.curdescWhileRunning c)
  else setCurdesc c (joinPtr v (lo32 (s.eng.get c).curdesc)) s

/-- The channel after a TAILDESC_LSB write: in phase IDLE the write is the walk trigger (R187,
42_engine_sequencer.md R252). -/
def tailWritten (e : Eng) (v : Word) : Eng :=
  { e with
    taildesc := joinPtr (hi32 e.taildesc) v
    phase := if e.phase == .idle then .fetch else e.phase }

/-- WRITE_TAILDESC of the low half (R187). -/
def writeTaildescLsb (c : Chan) (v : Word) (s : State) : Res :=
  if !alignedLow v then .fault (.misalignedDescriptorPointer c (v.setWidth 64))
  else .next ((s.setEng c (tailWritten (s.eng.get c) v)).answer .unit)

/-- WRITE_TAILDESC of the high half: no trigger (R187). -/
def writeTaildescMsb (c : Chan) (v : Word) (s : State) : Res :=
  .next ((s.setEng c { s.eng.get c with taildesc := joinPtr v (lo32 (s.eng.get c).taildesc) }).answer .unit)

/-- WR32 of a register (R181): refused while a soft reset is in progress. -/
def mmioWrite (c : Chan) (r : Reg) (v : Word) (s : State) : Res :=
  if s.rstBusy then .fault (.writeDuringReset (mmioOffset c r))
  else match r with
    | .dmacr => writeDmacr c v s
    | .dmasr => writeDmasr c v s
    | .curdescLsb => writeCurdescLsb c v s
    | .curdescMsb => writeCurdescMsb c v s
    | .taildescLsb => writeTaildescLsb c v s
    | .taildescMsb => writeTaildescMsb c v s

/-! The 24 operation words. -/

/-- rd32 TX.DMACR (R180). -/
def execRdTxDmacr (s : State) : Res := mmioRead .tx .dmacr s

/-- rd32 TX.DMASR (R180). -/
def execRdTxDmasr (s : State) : Res := mmioRead .tx .dmasr s

/-- rd32 TX.CURDESC_LSB (R180). -/
def execRdTxCurdescLsb (s : State) : Res := mmioRead .tx .curdescLsb s

/-- rd32 TX.CURDESC_MSB (R180). -/
def execRdTxCurdescMsb (s : State) : Res := mmioRead .tx .curdescMsb s

/-- rd32 TX.TAILDESC_LSB (R180). -/
def execRdTxTaildescLsb (s : State) : Res := mmioRead .tx .taildescLsb s

/-- rd32 TX.TAILDESC_MSB (R180). -/
def execRdTxTaildescMsb (s : State) : Res := mmioRead .tx .taildescMsb s

/-- rd32 RX.DMACR (R180). -/
def execRdRxDmacr (s : State) : Res := mmioRead .rx .dmacr s

/-- rd32 RX.DMASR (R180). -/
def execRdRxDmasr (s : State) : Res := mmioRead .rx .dmasr s

/-- rd32 RX.CURDESC_LSB (R180). -/
def execRdRxCurdescLsb (s : State) : Res := mmioRead .rx .curdescLsb s

/-- rd32 RX.CURDESC_MSB (R180). -/
def execRdRxCurdescMsb (s : State) : Res := mmioRead .rx .curdescMsb s

/-- rd32 RX.TAILDESC_LSB (R180). -/
def execRdRxTaildescLsb (s : State) : Res := mmioRead .rx .taildescLsb s

/-- rd32 RX.TAILDESC_MSB (R180). -/
def execRdRxTaildescMsb (s : State) : Res := mmioRead .rx .taildescMsb s

/-- wr32 TX.DMACR (R181). -/
def execWrTxDmacr (v : Word) (s : State) : Res := mmioWrite .tx .dmacr v s

/-- wr32 TX.DMASR (R181). -/
def execWrTxDmasr (v : Word) (s : State) : Res := mmioWrite .tx .dmasr v s

/-- wr32 TX.CURDESC_LSB (R181). -/
def execWrTxCurdescLsb (v : Word) (s : State) : Res := mmioWrite .tx .curdescLsb v s

/-- wr32 TX.CURDESC_MSB (R181). -/
def execWrTxCurdescMsb (v : Word) (s : State) : Res := mmioWrite .tx .curdescMsb v s

/-- wr32 TX.TAILDESC_LSB (R181). -/
def execWrTxTaildescLsb (v : Word) (s : State) : Res := mmioWrite .tx .taildescLsb v s

/-- wr32 TX.TAILDESC_MSB (R181). -/
def execWrTxTaildescMsb (v : Word) (s : State) : Res := mmioWrite .tx .taildescMsb v s

/-- wr32 RX.DMACR (R181). -/
def execWrRxDmacr (v : Word) (s : State) : Res := mmioWrite .rx .dmacr v s

/-- wr32 RX.DMASR (R181). -/
def execWrRxDmasr (v : Word) (s : State) : Res := mmioWrite .rx .dmasr v s

/-- wr32 RX.CURDESC_LSB (R181). -/
def execWrRxCurdescLsb (v : Word) (s : State) : Res := mmioWrite .rx .curdescLsb v s

/-- wr32 RX.CURDESC_MSB (R181). -/
def execWrRxCurdescMsb (v : Word) (s : State) : Res := mmioWrite .rx .curdescMsb v s

/-- wr32 RX.TAILDESC_LSB (R181). -/
def execWrRxTaildescLsb (v : Word) (s : State) : Res := mmioWrite .rx .taildescLsb v s

/-- wr32 RX.TAILDESC_MSB (R181). -/
def execWrRxTaildescMsb (v : Word) (s : State) : Res := mmioWrite .rx .taildescMsb v s

/-- The read of a register, as a procedure's expansion names it. -/
def rdInstr (c : Chan) (r : Reg) : Instr :=
  match c, r with
  | .tx, .dmacr => .rdTxDmacr
  | .tx, .dmasr => .rdTxDmasr
  | .tx, .curdescLsb => .rdTxCurdescLsb
  | .tx, .curdescMsb => .rdTxCurdescMsb
  | .tx, .taildescLsb => .rdTxTaildescLsb
  | .tx, .taildescMsb => .rdTxTaildescMsb
  | .rx, .dmacr => .rdRxDmacr
  | .rx, .dmasr => .rdRxDmasr
  | .rx, .curdescLsb => .rdRxCurdescLsb
  | .rx, .curdescMsb => .rdRxCurdescMsb
  | .rx, .taildescLsb => .rdRxTaildescLsb
  | .rx, .taildescMsb => .rdRxTaildescMsb

/-- The write of a register, as a procedure's expansion names it. -/
def wrInstr (c : Chan) (r : Reg) (v : Word) : Instr :=
  match c, r with
  | .tx, .dmacr => .wrTxDmacr v
  | .tx, .dmasr => .wrTxDmasr v
  | .tx, .curdescLsb => .wrTxCurdescLsb v
  | .tx, .curdescMsb => .wrTxCurdescMsb v
  | .tx, .taildescLsb => .wrTxTaildescLsb v
  | .tx, .taildescMsb => .wrTxTaildescMsb v
  | .rx, .dmacr => .wrRxDmacr v
  | .rx, .dmasr => .wrRxDmasr v
  | .rx, .curdescLsb => .wrRxCurdescLsb v
  | .rx, .curdescMsb => .wrRxCurdescMsb v
  | .rx, .taildescLsb => .wrRxTaildescLsb v
  | .rx, .taildescMsb => .wrRxTaildescMsb v

end Sys2Proof.Machine
end

