-- ==== Sys2Proof/Machine/Ring.lean ====
section
/-! DEFINITION. Ring management: Relink, Populate, Reclaim (43_ring.md). A procedure is a pseudo-instruction
(30_encoding.md R171): it checks its preconditions and puts its expansion on the running context; a program point of
the expansion is a local computation of the host, one step of its own (log entry 12). -/

namespace Sys2Proof.Machine

/-- The offsets of a descriptor's words (30_encoding.md R160). -/
def offBufAddr : Addr := 0x08
def offBufAddrMsb : Addr := 0x0C
def offControl : Addr := 0x18
def offStatus : Addr := 0x1C
def offApp0 : Addr := 0x20

/-- The two stores that link descriptor i to its successor (R300). -/
def relinkPair (p : Params) (c : Chan) (n i : Nat) : List Item :=
  [.op (.st32 (descAddr p c i) (lo32 (descAddr p c ((i + 1) % n)))),
   .op (.st32 (descAddr p c i + 0x04) (hi32 (descAddr p c ((i + 1) % n))))]

/-- RELINK's expansion (R300). -/
def relinkCode (p : Params) (c : Chan) (r : Record) : List Item :=
  (List.range r.cap).flatMap (relinkPair p c r.cap)
    ++ [.op .fence, .op (.dcFlush r.ring (descStride * r.cap)), .cont (.ret .unit)]

/-- RELINK (R300). -/
def execRelink (c : Nat) (s : State) : Res :=
  withReady c s fun ch => .next (s.push (relinkCode s.cfg ch (s.ch.get ch)))

/-! POPULATE (R301). -/

/-- POPULATE (R301): the preconditions, then the critical section. -/
def execPopulate (c : Nat) (buf : Addr) (len : Word) (first last : Bool) (s : State) : Res :=
  withReady c s fun ch => whenConfigured ch s
    (.next (s.push [.op (.csEnter c), .cont (.popSlot ⟨ch, buf, len, first, last⟩)]))

/-- The slot after `pop`, and the load of its CONTROL. -/
def popSlot (p : PopArgs) (s : State) : State :=
  let ni := ((s.ch.get p.c).pop + 1) % (s.ch.get p.c).cap
  s.push [.op (.ld32 (descAddr s.cfg p.c ni + offControl)), .cont (.popCtl p s.ret.asKey ni)]

/-- The load of its STATUS. -/
def popCtl (p : PopArgs) (key : Key) (ni : Nat) (s : State) : State :=
  s.push [.op (.ld32 (descAddr s.cfg p.c ni + offStatus)), .cont (.popSts p key ni s.ret.asWord)]

/-- An RX buffer that is not line-aligned where the platform needs cache maintenance (R301). -/
def rxMisaligned (cfg : Params) (p : PopArgs) : Bool :=
  p.c == .rx && cfg.cacheMode == .noncoherent && (p.buf.toNat % cfg.line != 0 || p.len.toNat % cfg.line != 0)

/-- Populate's checks, in their order (R301): busy, size, alignment. -/
def popCheck (cfg : Params) (p : PopArgs) (ctl sts : Word) : Code :=
  if ctl ≠ 0 ∨ sts ≠ 0 then .ebusy
  else if 2 ^ 26 - 1 < p.len.toNat then .einval
  else if rxMisaligned cfg p then .einval
  else .ok

/-- The stores of an accepted block, and what follows them (R301). CH[c].app0 is read by its own ST32. -/
def popStores (cfg : Params) (p : PopArgs) (key : Key) (ni : Nat) : List Item :=
  let d := descAddr cfg p.c ni
  (match p.c with
    | .tx => []
    | .rx => [.op (.dcInval p.buf p.len.toNat)])
  ++ [.op (.st32 (d + offBufAddr) (lo32 p.buf)), .op (.st32 (d + offBufAddrMsb) (hi32 p.buf)),
      .app0Store p.c (d + offApp0), .op (.st32 (d + offControl) (controlWord p.len p.first p.last)),
      .op .fence, .op (.dcFlush d 64), .cont (.popSet p.c ni), .op (.csExit key), .cont (.ret (.code .ok))]

/-- After the STATUS load: the checks, then the stores or the failure's exit. -/
def popSts (p : PopArgs) (key : Key) (ni : Nat) (ctl : Word) (s : State) : State :=
  match popCheck s.cfg p ctl s.ret.asWord with
  | .ok => s.push (popStores s.cfg p key ni)
  | r => s.push [.op (.csExit key), .cont (.ret (.code r))]

/-- CH[c].pop ← ni. -/
def popSet (c : Chan) (ni : Nat) (s : State) : State := s.setRec c { s.ch.get c with pop := ni }

/-! RECLAIM (R302). -/

/-- RECLAIM (R302): the preconditions, then one critical section for the whole pass. -/
def execReclaim (c : Nat) (s : State) : Res :=
  withReady c s fun ch => whenConfigured ch s (.next (s.push [.op (.csEnter c), .cont (.rcKey ch)]))

/-- The head of an iteration: the STATUS load of the descriptor at `cmp`. -/
def rcHead (c : Chan) (key : Key) (count : Nat) (s : State) : State :=
  let d := descAddr s.cfg c (s.ch.get c).cmp
  s.push [.op (.ld32 (d + offStatus)), .cont (.rcSts c key count d)]

/-- The end of an iteration: the callback if there is one, the clearing, and the next iteration (R302). -/
def rcTail (c : Chan) (key : Key) (count : Nat) (d : Addr) (err : Bool) (s : State) : State :=
  s.push ((match (s.ch.get c).cb with
      | none => []
      | some _ => [.op (.callback (chanNum c) (if err then .fault else .ok))])
    ++ [.op (.st32 (d + offControl) 0), .op (.st32 (d + offStatus) 0), .op .fence, .op (.dcFlush d 64),
        .cont (.rcNext c key count)])

/-- After the error is known: RX reads the buffer's address, TX goes on. -/
def rcBuf (c : Chan) (key : Key) (count : Nat) (d : Addr) (sts : Word) (err : Bool) (s : State) : State :=
  match c with
  | .tx => rcTail .tx key count d err s
  | .rx => s.push [.op (.ld32 (d + offBufAddrMsb)), .cont (.rcBufHi .rx key count d sts err)]

/-- After the STATUS load: not finished ends the pass; else the error bits, and the checksum word if it is inspected. -/
def rcSts (c : Chan) (key : Key) (count : Nat) (d : Addr) (s : State) : State :=
  let sts := s.ret.asWord
  if !finishedStatus sts then s.push [.op (.csExit key), .cont (.ret (.count count))]
  else if (s.ch.get c).csumChk then
    s.push [.op (.ld32 (d + appOffset s.cfg.csumWord)), .cont (.rcCsum c key count d sts (errStatus sts))]
  else rcBuf c key count d sts (errStatus sts) s

/-- The masks of the checksum-status word (30_encoding.md R164). -/
def csumMask (p : Params) : Word := p.fcsErr ||| p.ipErr ||| p.udpErr ||| p.tcpErr

/-- After the checksum-word load (R302). -/
def rcCsum (c : Chan) (key : Key) (count : Nat) (d : Addr) (sts : Word) (err : Bool) (s : State) : State :=
  rcBuf c key count d sts (err || (s.ret.asWord &&& csumMask s.cfg) != 0) s

/-- After the load of the buffer address's high word: the load of its low word. -/
def rcBufHi (c : Chan) (key : Key) (count : Nat) (d : Addr) (sts : Word) (err : Bool) (s : State) : State :=
  s.push [.op (.ld32 (d + offBufAddr)), .cont (.rcBufLo c key count d sts err s.ret.asWord)]

/-- After the load of its low word: the invalidation of the transferred length. -/
def rcBufLo (c : Chan) (key : Key) (count : Nat) (d : Addr) (sts : Word) (err : Bool) (hi : Word) (s : State) : State :=
  s.push [.op (.dcInval (joinPtr hi s.ret.asWord) (lenField sts).toNat), .cont (.rcRx c key count d sts err)]

/-- CH[1].last_rx ← the transferred length, then the rest of the iteration. -/
def rcRx (c : Chan) (key : Key) (count : Nat) (d : Addr) (sts : Word) (err : Bool) (s : State) : State :=
  rcTail c key count d err (s.setRec c { s.ch.get c with lastRx := lenField sts })

/-- CH[c].cmp moves on, and the next iteration begins. -/
def rcNext (c : Chan) (key : Key) (count : Nat) (s : State) : State :=
  rcHead c key (count + 1)
    (s.setRec c { s.ch.get c with cmp := ((s.ch.get c).cmp + 1) % (s.ch.get c).cap })

/-- The Reclaim of a channel is under way in the running context (R231: its callback may not Configure that channel). -/
def State.reclaiming (s : State) (c : Chan) : Bool :=
  s.code.any fun
    | .cont (.rcNext ch _ _) => ch == c
    | .cont _ | .op _ | .line _ | .app0Store _ _ => false

end Sys2Proof.Machine
end

