-- ==== Sys2Proof/Machine/Channel.lean ====
section
/-! DEFINITION. Channel control: Start, Stop, Get_status (44_channel.md). The register offsets are those of the
channel's block, 0x00 for TX and 0x30 for RX (log entry 20). -/

namespace Sys2Proof.Machine

/-- START (R330). -/
def execStart (c : Nat) (s : State) : Res :=
  withChannel c s fun ch => whenConfigured ch s (.next (s.push [.op (.csEnter c), .cont (.startKey ch)]))

/-- DMASR is read once (R330). -/
def startKey (c : Chan) (s : State) : State :=
  s.push [.op (rdInstr c .dmasr), .cont (.startSr c s.ret.asKey)]

/-- A halted channel gets CR_START; then the barrier (R330). -/
def startSr (c : Chan) (key : Key) (s : State) : State :=
  s.push ((if s.ret.asWord.getLsbD 0 then [.op (wrInstr c .dmacr (crStart s.cfg))] else [])
    ++ [.op .fence, .cont (.startTail c key)])

/-- The tail: the most recently populated descriptor, its high word first (R330). -/
def startTail (c : Chan) (key : Key) (s : State) : State :=
  let t := descAddr s.cfg c (s.ch.get c).pop
  s.push [.op (wrInstr c .taildescMsb (hi32 t)), .op (wrInstr c .taildescLsb (lo32 t)), .op .fence, .op (.csExit key),
    .cont (.ret (.code .ok))]

/-- STOP (R331). -/
def execStop (c : Nat) (s : State) : Res :=
  withChannel c s fun ch => .next (s.push [.op (.csEnter c), .cont (.stopKey ch)])

/-- DMACR is read (R331). -/
def stopKey (c : Chan) (s : State) : State :=
  s.push [.op (rdInstr c .dmacr), .cont (.stopCr c s.ret.asKey)]

/-- RS alone is cleared in the value written back (R331). -/
def stopCr (c : Chan) (key : Key) (s : State) : State :=
  s.push [.op (wrInstr c .dmacr (s.ret.asWord &&& ~~~1#32)), .op (.csExit key), .cont (.ret (.code .ok))]

/-- GET_STATUS (R332): one read, no critical section. -/
def execGetStatus (c : Nat) (s : State) : Res :=
  withChannel c s fun ch => .next (s.push [.op (rdInstr ch .dmasr), .cont .statusSr])

/-- busy: neither HALTED nor IDLE in the value read (R332). -/
def statusSr (s : State) : State :=
  s.answer (.status .ok (!s.ret.asWord.getLsbD 0 && !s.ret.asWord.getLsbD 1))

end Sys2Proof.Machine
end

