-- ==== Sys2Proof/Machine/Configure.lean ====
section
/-! DEFINITION. Configuration: Configure, Reload, the channel filter (46_configure.md). -/

namespace Sys2Proof.Machine

/-- CONFIGURE (R365): the checks in their order, then the critical section. Configure on the channel being reclaimed,
called from its callback, is refused (41_host_primitives.md R231, log entry 15). -/
def execConfigure (c : Nat) (req : CfgReq) (s : State) : Res :=
  withChannel c s fun ch =>
    if s.reclaiming ch then .fault .badConfiguration
    else if req.srcAdj = .decrement ∨ req.dstAdj = .decrement then .next (s.answer (.code .enotsup))
    else if req.direction ≠ (s.ch.get ch).dir then .next (s.answer (.code .enotsup))
    else .next (s.push [.op (.csEnter c), .cont (.cfgKey ch req)])

/-- The cursors are reset, the ring relinked, and CURDESC written (R365). -/
def cfgKey (c : Chan) (req : CfgReq) (s : State) : State :=
  let r := s.ch.get c
  (s.setRec c { r with pop := r.cap - 1, cmp := 0 }).push
    [.op (.relink (chanNum c)), .op (wrInstr c .curdescMsb (hi32 r.ring)), .op (wrInstr c .curdescLsb (lo32 r.ring)),
     .cont (.cfgDone c req s.ret.asKey)]

/-- The channel is configured, and the critical section ends (R365). -/
def cfgDone (c : Chan) (req : CfgReq) (key : Key) (s : State) : State :=
  (s.setRec c { s.ch.get c with configured := true }).push [.op (.csExit key), .cont (.cfgLinked c req)]

/-- LINKED_MODE (R367): the record it leaves, if the selector is one of the two. -/
def linkedMode (p : Params) (c : Chan) (m : Int) (r : Record) : Option Record :=
  if m = p.linkedNoCsum then some { r with app0 := 0, csumChk := false }
  else if m = p.linkedFullCsum then
    match c with
    | .tx => some { r with app0 := p.app0CsumFull, csumChk := false }
    | .rx => some { r with app0 := 0, csumChk := true }
  else none

/-- The memory-side address of a block (R365): TX its source, RX its destination. -/
def memSide (c : Chan) (src dst : Addr) : Addr :=
  match c with
  | .tx => src
  | .rx => dst

/-- The Populate of the next block, if there is one; else OK (R365). -/
def cfgBlocks (c : Chan) (first : Bool) (s : State) : List Block → State
  | [] => s.answer (.code .ok)
  | b :: bs =>
    s.push [.op (.populate (chanNum c) (memSide c b.src b.dst) b.size first bs.isEmpty), .cont (.cfgNext c bs)]

/-- The linked mode, then the callback, then the block walk (R365). -/
def cfgLinked (c : Chan) (req : CfgReq) (s : State) : State :=
  match linkedMode s.cfg c req.linked (s.ch.get c) with
  | none => s.answer (.code .einval)
  | some r => cfgBlocks c true (s.setRec c { r with cb := req.cb, ud := req.ud }) req.blocks

/-- After a Populate: its error ends the walk, else the next block (R365). -/
def cfgNext (c : Chan) (bs : List Block) (s : State) : State :=
  if s.ret.asCode = .ok then cfgBlocks c false s bs else s

/-- RELOAD (R370): one Populate with both flags; its result is the result. -/
def execReload (c : Nat) (src dst : Addr) (size : Word) (s : State) : Res :=
  withChannel c s fun ch => .next (s.push [.op (.populate c (memSide ch src dst) size true true)])

/-- The channel filter (R372). -/
def chanFilterResult (c : Nat) (tag : String) : Bool := (c == 0 && tag == "tx") || (c == 1 && tag == "rx")

/-- CHAN_FILTER (R372): reads no state. -/
def execChanFilter (c : Nat) (tag : String) (s : State) : Res := .next (s.answer (.bool (chanFilterResult c tag)))

end Sys2Proof.Machine
end

