-- ==== Sys2Proof/Machine/Controller.lean ====
section
/-! DEFINITION. Controller initialisation (47_controller.md R390). -/

namespace Sys2Proof.Machine

/-- The wiring INIT gives a channel's record; its other fields keep their values (R390). -/
def wired (p : Params) (c : Chan) (r : Record) : Record :=
  match c with
  | .tx => { r with ring := p.ring.tx, cap := p.cap.tx, base := p.base, irq := p.irq.tx, dir := .memToPeriph }
  | .rx => { r with ring := p.ring.rx, cap := p.cap.rx, base := p.base + 0x30, irq := p.irq.rx, dir := .periphToMem }

/-- The soft-reset value, BIT(2) (R390). -/
def resetBit : Word := 0x00000004

/-- INIT (R390). -/
def execInit (s : State) : Res :=
  if s.ctl ≠ .uninit then .fault .reInit
  else if s.cfg.channels ≠ 2 then .next ({ s with ctl := .failed }.answer (.code .einval))
  else
    .next ({ s with ch := ⟨wired s.cfg .tx s.ch.tx, wired s.cfg .rx s.ch.rx⟩ }.push
      [.op (wrInstr .tx .dmacr resetBit), .cont (.initPoll 1)])

/-- Poll i: DMACR is read (R390). -/
def initPoll (i : Nat) (s : State) : State := s.push [.op (rdInstr .tx .dmacr), .cont (.initChk i)]

/-- After the read of poll i: ready, another poll after a sleep, or the failure (R390). -/
def initChk (i : Nat) (s : State) : State :=
  if !s.ret.asWord.getLsbD 2 then
    ((s.install .tx).install .rx).push
      [.op (.irqEnable s.cfg.irq.tx), .op (.irqEnable s.cfg.irq.rx), .cont .initReady]
  else if i < s.cfg.resetRetries then s.push [.op .sleep, .cont (.initPoll (i + 1))]
  else { s with ctl := .failed }.answer (.code .eio)

/-- The controller is ready (R390). -/
def initReady (s : State) : State := { s with ctl := .ready }.answer (.code .ok)

end Sys2Proof.Machine
end

