-- ==== Sys2Proof/Machine/Interrupt.lean ====
section
/-! DEFINITION. The per-direction interrupt handler (45_interrupt.md R350). -/

namespace Sys2Proof.Machine

/-- ISR (R350). A number that names no channel is a bad configuration, since the procedure is internal (60_exceptions.md
R415, log entry 14). -/
def execIsr (c : Nat) (s : State) : Res :=
  withReady c s fun ch =>
    .next (s.push [.op (.irqIsEnabled (s.ch.get ch).irq), .cont (.isrWas ch (s.ch.get ch).irq)])

/-- The owning line is disabled first, then DMASR is read once (R350). -/
def isrWas (c : Chan) (l : Nat) (s : State) : State :=
  s.push [.op (.irqDisable l), .op (rdInstr c .dmasr), .cont (.isrSr c l s.ret.asBool)]

/-- The acknowledge mask of an error, BIT(14) (R350). -/
def ackErr : Word := 0x00004000

/-- The acknowledge mask of a completion or a delay, BIT(12) | BIT(13) (R350). -/
def ackIoc : Word := 0x00003000

/-- What the single value read asks for: log and acknowledge an error; acknowledge a completion or delay and reclaim;
enable the line again if it was enabled (R350). The return after the last of these is a step of its own: DESIGN CHOICE (log
entry 39). -/
def isrSr (c : Chan) (l : Nat) (was : Bool) (s : State) : State :=
  let sr := s.ret.asWord
  s.push ((if sr.getLsbD 14 then [.op (.log "DMA error"), .op (wrInstr c .dmasr ackErr)] else [])
    ++ (if sr.getLsbD 12 || sr.getLsbD 13 then [.op (wrInstr c .dmasr ackIoc), .op (.reclaim (chanNum c))] else [])
    ++ (if was then [.op (.irqEnable l)] else [])
    ++ [.cont (.ret .unit)])

end Sys2Proof.Machine
end

