-- ==== Sys2Proof/Machine/Points.lean ====
section
/-! DEFINITION. What each program point of the driver's procedures does. -/

namespace Sys2Proof.Machine

/-- The local computation at a program point, which is no longer in the running context's code. -/
def runPoint (k : Cont) (s : State) : State :=
  match k with
  | .assign d b => s.assign d b s.ret
  | .ret v => s.answer v
  | .popSlot p => popSlot p s
  | .popCtl p key ni => popCtl p key ni s
  | .popSts p key ni ctl => popSts p key ni ctl s
  | .popSet c ni => popSet c ni s
  | .rcKey c => rcHead c s.ret.asKey 0 s
  | .rcSts c key count d => rcSts c key count d s
  | .rcCsum c key count d sts err => rcCsum c key count d sts err s
  | .rcBufHi c key count d sts err => rcBufHi c key count d sts err s
  | .rcBufLo c key count d sts err hi => rcBufLo c key count d sts err hi s
  | .rcRx c key count d sts err => rcRx c key count d sts err s
  | .rcNext c key count => rcNext c key count s
  | .startKey c => startKey c s
  | .startSr c key => startSr c key s
  | .startTail c key => startTail c key s
  | .stopKey c => stopKey c s
  | .stopCr c key => stopCr c key s
  | .statusSr => statusSr s
  | .isrWas c l => isrWas c l s
  | .isrSr c l was => isrSr c l was s
  | .cfgKey c req => cfgKey c req s
  | .cfgDone c req key => cfgDone c req key s
  | .cfgLinked c req => cfgLinked c req s
  | .cfgNext c bs => cfgNext c bs s
  | .initPoll i => initPoll i s
  | .initChk i => initChk i s
  | .initReady => initReady s

end Sys2Proof.Machine
end

