-- ==== Sys2Proof/Machine/Dispatch.lean ====
section
/-! DEFINITION. One arm per operation, each one call of its meaning. -/

namespace Sys2Proof.Machine

def exec (i : Instr) (s : State) : Host.Outcome State Fault Refusal :=
  match i with
  | .rdTxDmacr => Sys2Proof.Machine.execRdTxDmacr s
  | .rdTxDmasr => Sys2Proof.Machine.execRdTxDmasr s
  | .rdTxCurdescLsb => Sys2Proof.Machine.execRdTxCurdescLsb s
  | .rdTxCurdescMsb => Sys2Proof.Machine.execRdTxCurdescMsb s
  | .rdTxTaildescLsb => Sys2Proof.Machine.execRdTxTaildescLsb s
  | .rdTxTaildescMsb => Sys2Proof.Machine.execRdTxTaildescMsb s
  | .rdRxDmacr => Sys2Proof.Machine.execRdRxDmacr s
  | .rdRxDmasr => Sys2Proof.Machine.execRdRxDmasr s
  | .rdRxCurdescLsb => Sys2Proof.Machine.execRdRxCurdescLsb s
  | .rdRxCurdescMsb => Sys2Proof.Machine.execRdRxCurdescMsb s
  | .rdRxTaildescLsb => Sys2Proof.Machine.execRdRxTaildescLsb s
  | .rdRxTaildescMsb => Sys2Proof.Machine.execRdRxTaildescMsb s
  | .wrTxDmacr v => Sys2Proof.Machine.execWrTxDmacr v s
  | .wrTxDmasr v => Sys2Proof.Machine.execWrTxDmasr v s
  | .wrTxCurdescLsb v => Sys2Proof.Machine.execWrTxCurdescLsb v s
  | .wrTxCurdescMsb v => Sys2Proof.Machine.execWrTxCurdescMsb v s
  | .wrTxTaildescLsb v => Sys2Proof.Machine.execWrTxTaildescLsb v s
  | .wrTxTaildescMsb v => Sys2Proof.Machine.execWrTxTaildescMsb v s
  | .wrRxDmacr v => Sys2Proof.Machine.execWrRxDmacr v s
  | .wrRxDmasr v => Sys2Proof.Machine.execWrRxDmasr v s
  | .wrRxCurdescLsb v => Sys2Proof.Machine.execWrRxCurdescLsb v s
  | .wrRxCurdescMsb v => Sys2Proof.Machine.execWrRxCurdescMsb v s
  | .wrRxTaildescLsb v => Sys2Proof.Machine.execWrRxTaildescLsb v s
  | .wrRxTaildescMsb v => Sys2Proof.Machine.execWrRxTaildescMsb v s
  | .ld32 a => Sys2Proof.Machine.execLd32 a s
  | .st32 a v => Sys2Proof.Machine.execSt32 a v s
  | .fence => Sys2Proof.Machine.execFence s
  | .dcFlush a n => Sys2Proof.Machine.execDcFlush a n s
  | .dcInval a n => Sys2Proof.Machine.execDcInval a n s
  | .irqEnable l => Sys2Proof.Machine.execIrqEnable l s
  | .irqDisable l => Sys2Proof.Machine.execIrqDisable l s
  | .irqIsEnabled l => Sys2Proof.Machine.execIrqIsEnabled l s
  | .csEnter c => Sys2Proof.Machine.execCsEnter c s
  | .csExit key => Sys2Proof.Machine.execCsExit key s
  | .sleep => Sys2Proof.Machine.execSleep s
  | .callback c r => Sys2Proof.Machine.execCallback c r s
  | .log msg => Sys2Proof.Machine.execLog msg s
  | .relink c => Sys2Proof.Machine.execRelink c s
  | .populate c buf len first last => Sys2Proof.Machine.execPopulate c buf len first last s
  | .reclaim c => Sys2Proof.Machine.execReclaim c s
  | .start c => Sys2Proof.Machine.execStart c s
  | .stop c => Sys2Proof.Machine.execStop c s
  | .getStatus c => Sys2Proof.Machine.execGetStatus c s
  | .isr c => Sys2Proof.Machine.execIsr c s
  | .configure c req => Sys2Proof.Machine.execConfigure c req s
  | .reload c src dst size => Sys2Proof.Machine.execReload c src dst size s
  | .chanFilter c tag => Sys2Proof.Machine.execChanFilter c tag s
  | .init => Sys2Proof.Machine.execInit s
  | .eHalt c => Sys2Proof.Machine.execEHalt c s
  | .eFetch c => Sys2Proof.Machine.execEFetch c s
  | .eXferTx => Sys2Proof.Machine.execEXferTx s
  | .eXferRx => Sys2Proof.Machine.execEXferRx s
  | .eWb c => Sys2Proof.Machine.execEWb c s
  | .eDelay c => Sys2Proof.Machine.execEDelay c s
  | .eResetDone => Sys2Proof.Machine.execEResetDone s
  | .envDrain => Sys2Proof.Machine.execEnvDrain s
  | .envEvict => Sys2Proof.Machine.execEnvEvict s
  | .envFill => Sys2Proof.Machine.execEnvFill s
  | .irqTake c => Sys2Proof.Machine.execIrqTake c s

end Sys2Proof.Machine
end

