-- ==== Sys2Proof/Machine/Fetch.lean ====
section
/-! DEFINITION. Which agent moves, what the host's running context does next, and how an operation word is fetched: from a
line of the program, or from the turn that names an autonomous step (00_scope.md R8, 30_encoding.md R144, R150). -/

namespace Sys2Proof.Machine

/-- The turns there are: the host's next step, and the sixteen words of the autonomous steps (30_encoding.md R144). -/
def legalTurns : List Turn :=
  [.host, .auto 0xC100, .auto 0xC101, .auto 0xC200, .auto 0xC201, .auto 0xC300, .auto 0xC301, .auto 0xC400,
   .auto 0xC401, .auto 0xC500, .auto 0xC501, .auto 0xC600, .auto 0xD000, .auto 0xD100, .auto 0xD200, .auto 0xD300,
   .auto 0xD301]

/-- Whose turn it is: the run's own order, or a free choice where the run gives none (R8, log entry 1). -/
def State.turn (s : State) : Turn :=
  match s.turns with
  | t :: _ => t
  | [] => legalTurns.getD (Config.freeTurn s.turnNo % 17) .host

/-- The turn is taken. -/
def State.nextTurn (s : State) : State :=
  { s with turns := s.turns.drop 1, turnNo := s.turnNo + (1 - s.turns.length) }

/-- The fault of a word that spells no operation (30_encoding.md R150). -/
def DecodeError.asFault : DecodeError → Fault
  | .illegalOp w => .illegalOp w
  | .badRegisterAccess off => .badRegisterAccess off
  | .unmappedRegister off => .unmappedRegister off

/-- The operation a word of a program spells; an AUTO word is never issued by a program (R144, R150 f). -/
def programInstr (w : OpWord) (x : Args) : Host.Outcome Instr Fault Refusal :=
  match decode w x with
  | .error e => .fault (DecodeError.asFault e)
  | .ok i => if i.opClass = .auto then .fault (.illegalOp w) else .next i

/-- The operation of a line, its program values put in (R170). A line that names a value never written is no program of
the spec (10_state.md R40, log entry 19). -/
def lineInstr (vals : List (Nat × Value)) (l : ProgLine) : Host.Outcome Instr Fault Refusal :=
  match resolveArgs vals l with
  | .inl x => programInstr l.word x
  | .inr k => match programInstr l.word l.args with
    | .next _ => .refused (.unboundValue k)
    | .fault e => .fault e
    | .refused r => .refused r

/-- What a line leaves to do after its operation: its result goes to tD, a status's busy flag to tB (R170). That this is a host
step of its own is a DESIGN CHOICE (log entry 40). -/
def lineTail (l : ProgLine) : List Item :=
  match l.dst, l.dst2 with
  | none, none => []
  | d, b => [.cont (.assign d b)]

/-- One line of a program: fetched, decoded and run. -/
def runLine (l : ProgLine) (s : State) : Res :=
  match lineInstr s.running.vals l with
  | .next i => exec i (s.push (lineTail l))
  | .fault e => .fault e
  | .refused r => .refused r

/-- One operation of a procedure's expansion. No expansion holds an AUTO word, and none may (R150 f). -/
def runOp (i : Instr) (s : State) : Res := if i.opClass = .auto then .fault (.illegalOp (encodeWord i)) else exec i s

/-- The first item of the running context's code, which the code no longer holds. -/
def runItem (it : Item) (s : State) : Res :=
  match it with
  | .line l => runLine l s
  | .op i => runOp i s
  | .cont k => .next (runPoint k s)
  | .app0Store c a => runOp (.st32 a (s.ch.get c).app0) s

/-- The host's turn: the next step of the running context (10_state.md R61). With nothing to run it changes nothing (log
entry 22). An interrupt context that has run its last step is popped (60_exceptions.md R426). -/
def hostTurn (s : State) : Res :=
  mapNext State.settle
    (match s.code with
    | [] => .next s
    | it :: rest => runItem it (s.setCode rest))

/-- The turn of an autonomous step, named by its word; a word of another class names none (30_encoding.md R144). -/
def autoTurn (w : OpWord) (s : State) : Res :=
  match decode w {} with
  | .error e => .fault (DecodeError.asFault e)
  | .ok i => if i.opClass = .auto then exec i s else .fault (.illegalOp w)

/-- A turn, already taken off the run's order. -/
def takeTurn (t : Turn) (s : State) : Res :=
  match t with
  | .host => hostTurn s
  | .auto w => autoTurn w s

/-- The turn that comes next, on a machine whose parameters keep their constraints; any other is refused as a whole (R10). -/
def checkedTurn (s : State) : Res :=
  if paramsValid s.cfg then takeTurn s.turn s.nextTurn else .fault .badConfiguration

/-- An operation word of `nbits` bits, the bits above them zero. -/
def tableOpWord (nbits w : Nat) : OpWord := BitVec.ofNat 16 (w % 2 ^ nbits)

/-- An operation word put where the next step takes it: an AUTO word as the next turn, any other as the next line of the
running context, whose turn is next. -/
def State.placeWord (s : State) (w : OpWord) : State :=
  if opClassBits w = 3 then { s with turns := .auto w :: s.turns }
  else { s.push [.line { word := w }] with turns := .host :: s.turns }

end Sys2Proof.Machine
end

