-- ==== Sys2Proof/Machine/Step.lean ====
section
/-! DEFINITION. One step of the machine: one turn of one agent (00_scope.md R8), refused as a whole where the parameters
break their constraints (R10). -/

namespace Sys2Proof.Machine

/-- One step: the agent whose turn it is moves (log entry 1). -/
def step (s : State) : Host.Outcome State Fault Refusal := checkedTurn s

/-- The state with an operation word where the next step takes it: a line of the running context, or the turn of an
autonomous step. It stands for the load of a program (log entry 1). -/
def State.withFetchWord (s : State) (nbits w : Nat) : State := s.placeWord (tableOpWord nbits w)

end Sys2Proof.Machine
end

