-- ==== Sys2Proof/Safety.lean ====
section
/-! DEFINITION. The terms claims are stated in: runs and their fairness (70_reset_and_hazards.md R480, R490), runs in which
only the host moves, and the invariant every step keeps. -/

namespace Sys2Proof.Machine

/-! Runs. -/

/-- One step in which a given agent moves: the model's own step, that turn put before the run's other turns. -/
def stepAs (t : Turn) (s : State) : Res := step { s with turns := t :: s.turns }

/-- What follows a step that has a next state. -/
def bindNext (r : Res) (f : State → Res) : Res :=
  match r with
  | .next t => f t
  | .fault e => .fault e
  | .refused e => .refused e

/-- `n` steps of the host in a row, no other agent moving. -/
def hostRun : Nat → State → Res
  | 0, s => .next s
  | n + 1, s => bindNext (stepAs .host s) fun t => hostRun n t

/-- Steps of autonomous agents in a row, named by their operations; no host step between them. -/
def autoRun : List Instr → State → Res
  | [], s => .next s
  | i :: is, s => bindNext (stepAs (.auto (encodeWord i)) s) fun t => autoRun is t

/-- The running context waits at a FENCE (41_host_primitives.md R222). -/
def State.waitsAtFence (s : State) : Bool := s.code.head? == some (.op .fence) && !s.sb.isEmpty

/-- One step of a quiet run: the host moves, except that while it waits at a FENCE the word of the oldest pending store
drains, a line that is not cached staying so (20_memory.md R107). -/
def quietStep (s : State) : Res :=
  if s.waitsAtFence then stepAs (.auto 0xD000) { s with draws := 0 :: s.draws } else stepAs .host s

/-- `n` steps of a quiet run. -/
def quietRun : Nat → State → Res
  | 0, s => .next s
  | n + 1, s => bindNext (quietStep s) fun t => quietRun n t

/-- An infinite run of the machine. -/
def IsRun (r : Nat → State) : Prop := ∀ n, step (r n) = .next (r (n + 1))

/-- The host has a step to take. R480 names the thread's; that the running interrupt context's counts with it is DEDUCED (log
entry 37). -/
def State.hostEnabled (s : State) : Bool := !s.code.isEmpty

/-- The steps R480 is fair to, each with its enabling condition. -/
def fairTurns : List (Turn × (State → Bool)) :=
  [(.host, State.hostEnabled), (.auto 0xD000, fun s => !s.sb.isEmpty),
   (.auto 0xC100, fun s => s.haltEnabled .tx), (.auto 0xC101, fun s => s.haltEnabled .rx),
   (.auto 0xC200, fun s => s.fetchEnabled .tx), (.auto 0xC201, fun s => s.fetchEnabled .rx),
   (.auto 0xC300, fun s => s.xferEnabled .tx), (.auto 0xC400, fun s => s.wbEnabled .tx),
   (.auto 0xC401, fun s => s.wbEnabled .rx), (.auto 0xC500, fun s => s.delayEnabled .tx),
   (.auto 0xC501, fun s => s.delayEnabled .rx), (.auto 0xC600, fun s => s.rstBusy),
   (.auto 0xD300, fun s => s.canTakeIrq .tx), (.auto 0xD301, fun s => s.canTakeIrq .rx)]

/-- Weak fairness (R480): a step of the list that stays enabled is eventually taken. -/
def Fair (r : Nat → State) : Prop :=
  ∀ p ∈ fairTurns, ∀ n, (∀ m, n ≤ m → p.2 (r m) = true) → ∃ m, n ≤ m ∧ (r m).turn = p.1

/-- The run has ended (R490): the thread has finished, no interrupt context is active, SB is empty, and no step of R480's
list is enabled. -/
def State.runEnded (s : State) : Bool :=
  s.thread.code.isEmpty && s.irqs.isEmpty && s.sb.isEmpty && fairTurns.all fun p => !p.2 s

/-! The invariant. -/

/-- The three descriptor pointers of a channel are 64-byte aligned (10_state.md R44, R45, R58). -/
def Eng.ptrsAligned (e : Eng) : Bool := aligned64 e.curdesc && aligned64 e.taildesc && aligned64 e.fp

/-- The countdown and the threshold are in 1..255 (10_state.md R42, R53). -/
def Eng.countsLegal (e : Eng) : Bool := e.cnt != 0 && e.cr.irqThreshold != 0

/-- A channel is HALTED with its delay timer idle. -/
def Eng.quiet (e : Eng) : Bool := e.phase == .halted && !e.armed

/-- The wiring of a channel's record is the platform's, and both cursors are indexes of the ring (10_state.md R63). -/
def recordLegal (p : Params) (c : Chan) (r : Record) : Bool :=
  r.ring == p.ring.get c && r.cap == p.cap.get c && r.irq == p.irq.get c && decide (r.pop < r.cap) && decide (r.cmp < r.cap)

/-- The slot that a program point of Populate holds is an index of its ring (00_scope.md R13). -/
def pointLegal (p : Params) : Cont → Bool
  | .popCtl a _ ni | .popSts a _ ni _ => decide (ni < p.cap.get a.c)
  | .popSet c ni => decide (ni < p.cap.get c)
  | _ => true

/-- A context's code holds no slot outside its ring. -/
def codeLegal (p : Params) (is : List Item) : Bool :=
  is.all fun
    | .cont k => pointLegal p k
    | .line _ | .op _ | .app0Store _ _ => true

/-- A line number is one of the two. -/
def isLine (p : Params) (l : Nat) : Bool := l == p.irq.tx || l == p.irq.rx

/-- No two contexts are for the same line. -/
def linesDistinct : List IrqCtx → Bool
  | [] => true
  | i :: t => t.all (fun j => j.line != i.line) && linesDistinct t

/-- The active interrupt contexts: one at most per line, each with something left to run (10_state.md R61,
60_exceptions.md R426, R427). -/
def irqsLegal (p : Params) (is : List IrqCtx) : Bool :=
  linesDistinct is && is.all fun i => isLine p i.line && !i.ctx.code.isEmpty

/-- A cache line is aligned, whole and inside the address space (20_memory.md R124). -/
def lineLegal (p : Params) (l : CacheLine) : Bool :=
  l.base % p.line == 0 && decide (l.base < 2 ^ 64) && l.bytes.length == p.line

/-- Lines by strictly rising base. -/
def basesRise : List CacheLine → Bool
  | [] => true
  | l :: t => t.all (fun k => decide (l.base < k.base)) && basesRise t

/-- The cache is a map from line addresses to lines, and does not exist in COHERENT mode (20_memory.md R124, R125). -/
def cacheLegal (p : Params) (ls : List CacheLine) : Bool :=
  (p.cacheMode == .noncoherent || ls.isEmpty) && basesRise ls && ls.all (lineLegal p)

/-- What holds after every step if it held before it. -/
structure Inv (s : State) : Prop where
  /-- Memory is in canonical form (20_memory.md R104). -/
  memory : s.mem.wf = true
  /-- R44, R45, R58: the descriptor pointers are aligned. -/
  pointers : ∀ c, (s.eng.get c).ptrsAligned = true
  /-- R42, R53: threshold and countdown are in 1..255. -/
  counts : ∀ c, (s.eng.get c).countsLegal = true
  /-- R251: while a soft reset is in progress, both channels are HALTED with armed = false. -/
  resetting : s.rstBusy = true → ∀ c, (s.eng.get c).quiet = true
  /-- R63: the records are wired as the platform is. -/
  records : ∀ c, recordLegal s.cfg c (s.ch.get c) = true
  /-- R13: no procedure in progress holds an index outside its ring. -/
  points : codeLegal s.cfg s.thread.code = true ∧ s.irqs.all (fun i => codeLegal s.cfg i.ctx.code) = true
  /-- R61, R426, R427: the interrupt contexts. -/
  contexts : irqsLegal s.cfg s.irqs = true
  /-- R112: pending host stores are word-aligned. -/
  stores : s.sb.all (fun e => aligned4 e.addr) = true
  /-- R124, R125: the cache. -/
  cache : cacheLegal s.cfg s.cache = true

/-! Terms of claims about single operations. -/

/-- The running context is about to run an operation, with `rest` to run after it; an interrupt context has something
left, so that the operation's last step does not also end the context. -/
structure AboutTo (s : State) (i : Instr) (rest : List Item) : Prop where
  valid : paramsValid s.cfg = true
  code : s.code = .op i :: rest
  later : s.irqs = [] ∨ rest ≠ []

/-- Nothing of the host, the driver or the host's logs differs between two states. -/
structure SameHost (s t : State) : Prop where
  cfg : t.cfg = s.cfg
  gie : t.gie = s.gie
  lines : t.lines = s.lines
  thread : t.thread = s.thread
  irqs : t.irqs = s.irqs
  sb : t.sb = s.sb
  cache : t.cache = s.cache
  ch : t.ch = s.ch
  ctl : t.ctl = s.ctl
  cblog : t.cblog = s.cblog
  logs : t.logs = s.logs

/-- What none of the driver's channel procedures touches: the parameters, the reset in progress, the controller's state, the
outbound stream, the cache where nothing cacheable is accessed, and the interrupted contexts. -/
structure SameRest (s t : State) : Prop where
  cfg : t.cfg = s.cfg
  rstBusy : t.rstBusy = s.rstBusy
  ctl : t.ctl = s.ctl
  outs : t.outs = s.outs
  cache : t.cache = s.cache
  interrupted : t.irqs.drop 1 = s.irqs.drop 1

/-- What a procedure on a ring leaves alone in every cache mode: all but memory, the cache, the channel's engine and record,
and the log of callbacks. -/
structure SameAround (s t : State) : Prop where
  cfg : t.cfg = s.cfg
  rstBusy : t.rstBusy = s.rstBusy
  gie : t.gie = s.gie
  lines : t.lines = s.lines
  ctl : t.ctl = s.ctl
  outs : t.outs = s.outs
  logs : t.logs = s.logs
  interrupted : t.irqs.drop 1 = s.irqs.drop 1

/-- An address is one of the `n` bytes at `a`. -/
def InSpan (a n x : Nat) : Prop := a ≤ x ∧ x < a + n

/-- A byte of the two link words of a descriptor of the ring (43_ring.md R300). -/
def LinkByte (p : Params) (c : Chan) (x : Nat) : Prop :=
  ∃ i, i < p.cap.get c ∧ InSpan (descAddr p c i).toNat 8 x

/-- A byte of the words Populate stores in a descriptor (43_ring.md R301). -/
def PopulatedByte (d : Addr) (x : Nat) : Prop :=
  InSpan (d.toNat + 0x08) 8 x ∨ InSpan (d.toNat + 0x18) 4 x ∨ InSpan (d.toNat + 0x20) 4 x

/-- The links close the ring, each descriptor naming the next, as `word` reads them (43_ring.md R300, 10_state.md R71). -/
def LinksClose (p : Params) (c : Chan) (word : Addr → Word) : Prop :=
  ∀ i, i < p.cap.get c → word (descAddr p c i + 4) ++ word (descAddr p c i) = descAddr p c ((i + 1) % p.cap.get c)

/-- A descriptor holds the words Populate stores in it, as `word` reads them (43_ring.md R301). -/
def HoldsBlock (word : Addr → Word) (d buf : Addr) (app0 ctl : Word) : Prop :=
  word (d + 0x0C) ++ word (d + 0x08) = buf ∧ word (d + 0x20) = app0 ∧ word (d + 0x18) = ctl

/-- The host sees a slot free: CONTROL and STATUS are 0 (43_ring.md R305). -/
def SlotFree (s : State) (d : Addr) : Prop := s.loadWord (d + 0x18) = 0 ∧ s.loadWord (d + 0x1C) = 0

/-- A block that Populate accepts: below 2^26 bytes, and line-aligned where an RX buffer needs cache maintenance (43_ring.md
R301). -/
def BlockFits (p : Params) (c : Chan) (buf : Addr) (len : Word) : Prop :=
  len.toNat < 2 ^ 26 ∧
    (c = .rx → p.cacheMode = .noncoherent → buf.toNat % p.line = 0 ∧ len.toNat % p.line = 0)

/-- DC_INVAL of [a, a+n) drops the cache line of a byte (41_host_primitives.md R224, 20_memory.md R125). -/
def Invalidated (p : Params) (a : Addr) (n x : Nat) : Prop :=
  uncachedRing p x = false ∧ ∃ k, k < n ∧ (a.toNat + k) % 2 ^ 64 / p.line = x / p.line

/-- Some byte of a cache line is in [a, a+n), addresses modulo 2^64 (20_memory.md R124, 00_scope.md R11). -/
def LineMeets (p : Params) (l : CacheLine) (a n : Nat) : Prop :=
  ∃ k, k < n ∧ ∃ j, j < p.line ∧ (a + k) % 2 ^ 64 = l.base + j

/-- The other channel. -/
def otherChan : Chan → Chan
  | .tx => .rx
  | .rx => .tx

/-- The channel whose engine takes a step, for the steps of an engine (42_engine_sequencer.md R251). -/
def engineChan : Instr → Option Chan
  | .eHalt c | .eFetch c | .eWb c | .eDelay c => some c
  | .eXferTx => some .tx
  | .eXferRx => some .rx
  | _ => none

/-- An operation is a DMACR write that asks for a soft reset (40_register_interface.md R184). -/
def asksReset : Instr → Bool
  | .wrTxDmacr v | .wrRxDmacr v => v.getLsbD 2
  | _ => false

/-- No line of a host-uncached ring is cached (20_memory.md R125). -/
def State.ringsUncached (s : State) : Bool := s.cache.all fun l => !uncachedRing s.cfg l.base

end Sys2Proof.Machine
end

