-- ==== Sys2Proof/Certificates/Slice0/Obligations.lean ====
section
/-! DEFINITION. The statements for the provers. Each docstring names the rules of spec/ it formalises; "log entry n" is a row
of notes/assumptions. -/

open Sys2Proof Sys2Proof.Machine

/-! Encoding (30_encoding.md). -/

/-- Decoding the word and arguments of an operation gives it back, and a word that decodes is the word of what it decodes
to: no two operations share a word (R141 to R147). -/
def Obligations.DecodeAndEncodeAgree : Prop :=
  (∀ i : Instr, decode (encodeWord i) (encodeArgs i) = .ok i) ∧
  ∀ (w : OpWord) (x : Args) (i : Instr), decode w x = .ok i → encodeWord i = w

/-- R150: each word that spells no operation is refused under the fault the rule names, in a program (a to f) and as a
turn (a to e). That a word of (a) whose offset is also one of (b) or (c) is refused under (a) is the model's choice (log
entry 35). -/
def Obligations.WordsThatSpellNoOperationAreRefused : Prop :=
  (∀ (w : OpWord) (x : Args), opClassBits w = 0 →
    (w.extractLsb' 9 5 ≠ 0 → decode w x = .error (.illegalOp w)) ∧
    (w.extractLsb' 9 5 = 0 → w.extractLsb' 0 2 ≠ 0 → decode w x = .error (.badRegisterAccess (w.extractLsb' 0 8))) ∧
    (w.extractLsb' 9 5 = 0 → w.extractLsb' 0 2 = 0 →
      (w.extractLsb' 0 8).toNat ∉ [0x00, 0x04, 0x08, 0x0C, 0x10, 0x14, 0x30, 0x34, 0x38, 0x3C, 0x40, 0x44] →
      decode w x = .error (.unmappedRegister (w.extractLsb' 0 8)))) ∧
  (∀ (w : OpWord) (x : Args), opClassBits w = 1 →
    (w.extractLsb' 0 8 ≠ 0 ∨ opNumber w = 0 ∨ 0x0D < opNumber w) → decode w x = .error (.illegalOp w)) ∧
  (∀ (w : OpWord) (x : Args), opClassBits w = 2 →
    (w.extractLsb' 0 8 ≠ 0 ∨ opNumber w = 0 ∨ 0x0B < opNumber w) → decode w x = .error (.illegalOp w)) ∧
  (∀ (w : OpWord) (x : Args), opClassBits w = 3 →
    (w.extractLsb' 1 7 ≠ 0 ∨ opNumber w ∉ [0x01, 0x02, 0x03, 0x04, 0x05, 0x06, 0x10, 0x11, 0x12, 0x13] ∨
      (w.getLsbD 0 = true ∧ opNumber w ∈ [0x06, 0x10, 0x11, 0x12])) → decode w x = .error (.illegalOp w)) ∧
  (∀ (s : State) (l : ProgLine) (rest : List Item) (x : Args), paramsValid s.cfg = true → s.turn = .host →
    s.code = .line l :: rest → resolveArgs s.running.vals l = .inl x →
    (opClassBits l.word = 3 → step s = .fault (.illegalOp l.word)) ∧
    (decode l.word x = .error (.illegalOp l.word) → step s = .fault (.illegalOp l.word)) ∧
    (∀ off, decode l.word x = .error (.badRegisterAccess off) → step s = .fault (.badRegisterAccess off)) ∧
    (∀ off, decode l.word x = .error (.unmappedRegister off) → step s = .fault (.unmappedRegister off))) ∧
  ∀ (s : State) (w : OpWord), paramsValid s.cfg = true → s.turn = .auto w →
    (decode w {} = .error (.illegalOp w) → step s = .fault (.illegalOp w)) ∧
    (∀ off, decode w {} = .error (.badRegisterAccess off) → step s = .fault (.badRegisterAccess off)) ∧
    (∀ off, decode w {} = .error (.unmappedRegister off) → step s = .fault (.unmappedRegister off))

/-- Words written out from R142 to R145 decode to the operations the tables give them. -/
def Obligations.WordsOfTheTablesDecode : Prop :=
  decode 0x0000 {} = .ok .rdTxDmacr ∧ decode 0x003C {} = .ok .rdRxCurdescMsb ∧
  decode 0x0134 { v := 0x1000 } = .ok (.wrRxDmasr 0x1000) ∧ decode 0x0110 { v := 0x10040 } = .ok (.wrTxTaildescLsb 0x10040) ∧
  decode 0x4200 { a := 0x10018, v := 5 } = .ok (.st32 0x10018 5) ∧ decode 0x4300 {} = .ok .fence ∧
  decode 0x4900 { c := 1 } = .ok (.csEnter 1) ∧ decode 0x8400 { c := 1 } = .ok (.start 1) ∧
  decode 0x8A00 { c := 0, tag := "tx" } = .ok (.chanFilter 0 "tx") ∧ decode 0xC201 {} = .ok (.eFetch .rx) ∧
  decode 0xC300 {} = .ok .eXferTx ∧ decode 0xC600 {} = .ok .eResetDone ∧ decode 0xD000 {} = .ok .envDrain ∧
  decode 0xD301 {} = .ok (.irqTake .rx)

/-! The step. -/

/-- A step runs the operation the bits decode to: a line of the running context's program, an operation of a procedure's
expansion, Populate's store of CH[c].app0 (R301: its operand is read as the store runs), or the turn of an autonomous agent.
Around exec the step takes the turn off the run's order and pops an interrupt context that has run its last step (R8, R171,
R301, R426; log entries 1 and 25). That it takes the item off the context's code first is the model's choice (log entry 34),
and so is that it leaves the assignment of tD and tB (R170) to do in a step of its own (log entry 40). -/
def Obligations.StepRunsTheDecodedOperation : Prop :=
  (∀ (s : State) (l : ProgLine) (rest : List Item) (i : Instr), paramsValid s.cfg = true → s.turn = .host →
    s.code = .line l :: rest → lineInstr s.running.vals l = .next i →
    step s = mapNext State.settle (exec i ((s.nextTurn.setCode rest).push (lineTail l)))) ∧
  (∀ (s : State) (i : Instr) (rest : List Item), paramsValid s.cfg = true → s.turn = .host →
    s.code = .op i :: rest → i.opClass ≠ .auto →
    step s = mapNext State.settle (exec i (s.nextTurn.setCode rest))) ∧
  (∀ (s : State) (c : Chan) (a : Addr) (rest : List Item), paramsValid s.cfg = true → s.turn = .host →
    s.code = .app0Store c a :: rest →
    step s = mapNext State.settle (exec (.st32 a (s.ch.get c).app0) (s.nextTurn.setCode rest))) ∧
  ∀ (s : State) (w : OpWord) (i : Instr), paramsValid s.cfg = true → s.turn = .auto w → decode w {} = .ok i →
    i.opClass = .auto → step s = exec i s.nextTurn

/-- The very next step runs the word that is placed, on the state it was placed in (log entry 1). -/
def Obligations.PlacedWordRunsNext : Prop :=
  ∀ (s : State) (w : OpWord) (i : Instr), paramsValid s.cfg = true → decode w {} = .ok i →
    step (s.withFetchWord 16 w.toNat) =
      if i.opClass = .auto then exec i s else mapNext State.settle (exec i s)

/-! Boot (70_reset_and_hazards.md R450, R451; 10_state.md R60 to R65, R72, R80). -/

/-- The values the spec gives the machine at boot, for all parameters; State.reset is that machine with the parameters of
the test vectors (log entry 5). The values the model chose (log entries 9 to 11) are not stated. -/
def Obligations.BootState : Prop :=
  State.reset = State.boot Params.vectors ∧
  ∀ p : Params,
    (State.boot p).cfg = p ∧ (State.boot p).rstBusy = false ∧
    (∀ c, ((State.boot p).eng.get c).cr = ⟨false, false, false, false, 1, 0⟩ ∧
      ((State.boot p).eng.get c).sr = ⟨false, false, false, false, false, false, false, false, false⟩ ∧
      ((State.boot p).eng.get c).curdesc = 0 ∧ ((State.boot p).eng.get c).taildesc = 0 ∧
      ((State.boot p).eng.get c).phase = .halted ∧ ((State.boot p).eng.get c).fp = 0 ∧
      ((State.boot p).eng.get c).cnt = 1 ∧ ((State.boot p).eng.get c).armed = false) ∧
    (State.boot p).gie = true ∧ (∀ c, (State.boot p).lines.get c = ⟨false, false⟩) ∧ (State.boot p).code = [] ∧
    (State.boot p).irqs = [] ∧ (State.boot p).sb = [] ∧ (State.boot p).cache = [] ∧ (State.boot p).ctl = .uninit ∧
    (State.boot p).cblog = [] ∧ (State.boot p).outs = [] ∧ (State.boot p).logs = [] ∧
    (∀ c, ((State.boot p).ch.get c).ring = p.ring.get c ∧ ((State.boot p).ch.get c).cap = p.cap.get c ∧
      ((State.boot p).ch.get c).cb = none ∧ ((State.boot p).ch.get c).lastRx = 0 ∧
      ((State.boot p).ch.get c).csumChk = false ∧ ((State.boot p).ch.get c).app0 = 0 ∧
      ((State.boot p).ch.get c).configured = false) ∧
    ∀ c x, inRingOf p c x = true → (State.boot p).mem.read x = 0

/-! The register interface (40_register_interface.md). -/

/-- R180, R44, R45: the reads of the eight pointer halves return the half and change nothing else. `rdInstr c r` is the
read of register r of channel c. -/
def Obligations.PointerReadsReturnTheHalf : Prop :=
  ∀ (s : State) (c : Chan),
    exec (rdInstr c .curdescLsb) s = .next (s.answer (.word ((s.eng.get c).curdesc.extractLsb' 0 32))) ∧
    exec (rdInstr c .curdescMsb) s = .next (s.answer (.word ((s.eng.get c).curdesc.extractLsb' 32 32))) ∧
    exec (rdInstr c .taildescLsb) s = .next (s.answer (.word ((s.eng.get c).taildesc.extractLsb' 0 32))) ∧
    exec (rdInstr c .taildescMsb) s = .next (s.answer (.word ((s.eng.get c).taildesc.extractLsb' 32 32)))

/-- R180, R42, R151, R55: a DMACR read returns every field, RESET while the reset is in progress, 0 for the excluded
modes, and one draw's bits for the reserved ones; it changes nothing but the draws. -/
def Obligations.DmacrReadReturnsTheFields : Prop :=
  ∀ (s : State) (c : Chan), ∃ v : Word, exec (rdInstr c .dmacr) s = .next ((s.spend 1).answer (.word v)) ∧
    v.getLsbD 0 = (s.eng.get c).cr.rs ∧ v.getLsbD 2 = s.rstBusy ∧ v.getLsbD 3 = false ∧ v.getLsbD 4 = false ∧
    v.getLsbD 12 = (s.eng.get c).cr.iocIrqEn ∧ v.getLsbD 13 = (s.eng.get c).cr.dlyIrqEn ∧
    v.getLsbD 14 = (s.eng.get c).cr.errIrqEn ∧ v.extractLsb' 16 8 = (s.eng.get c).cr.irqThreshold ∧
    v.extractLsb' 24 8 = (s.eng.get c).cr.irqDelay ∧
    ∀ i ∈ [1, 5, 6, 7, 8, 9, 10, 11, 15], v.getLsbD i = (s.choice 0).testBit i

/-- R180, R43, R53, R56: a DMASR read returns HALTED and IDLE by the phase, SG_INCLD, the errors, the pending bits and
the countdown; the reserved bits, the delay count, and IDLE while HALTED are one draw's bits. -/
def Obligations.DmasrReadReturnsTheStatus : Prop :=
  ∀ (s : State) (c : Chan), ∃ v : Word, exec (rdInstr c .dmasr) s = .next ((s.spend 1).answer (.word v)) ∧
    v.getLsbD 0 = ((s.eng.get c).phase == .halted) ∧
    ((s.eng.get c).phase = .idle → v.getLsbD 1 = true) ∧
    ((s.eng.get c).phase = .fetch ∨ (s.eng.get c).phase = .xfer ∨ (s.eng.get c).phase = .wb → v.getLsbD 1 = false) ∧
    ((s.eng.get c).phase = .halted → v.getLsbD 1 = (s.choice 0).testBit 1) ∧
    v.getLsbD 3 = true ∧ v.getLsbD 4 = (s.eng.get c).sr.dmaIntErr ∧ v.getLsbD 5 = (s.eng.get c).sr.dmaSlvErr ∧
    v.getLsbD 6 = (s.eng.get c).sr.dmaDecErr ∧ v.getLsbD 8 = (s.eng.get c).sr.sgIntErr ∧
    v.getLsbD 9 = (s.eng.get c).sr.sgSlvErr ∧ v.getLsbD 10 = (s.eng.get c).sr.sgDecErr ∧
    v.getLsbD 12 = (s.eng.get c).sr.iocIrq ∧ v.getLsbD 13 = (s.eng.get c).sr.dlyIrq ∧
    v.getLsbD 14 = (s.eng.get c).sr.errIrq ∧ v.extractLsb' 16 8 = (s.eng.get c).cnt ∧
    ∀ i ∈ [2, 7, 11, 15, 24, 25, 26, 27, 28, 29, 30, 31], v.getLsbD i = (s.choice 0).testBit i

/-- R181, R183: a write during a soft reset is refused, at its own offset; a DMACR write that asks for an excluded mode is
refused and has no effect, so the two mode bits always read 0. -/
def Obligations.RefusedRegisterWrites : Prop :=
  (∀ (s : State) (c : Chan) (r : Reg) (v : Word), s.rstBusy = true →
    exec (wrInstr c r v) s = .fault (.writeDuringReset (mmioOffset c r))) ∧
  (∀ (s : State) (c : Chan) (v : Word), s.rstBusy = false → (v.getLsbD 3 = true ∨ v.getLsbD 4 = true) →
    exec (wrInstr c .dmacr v) s = .fault (.unmodelledMode c v)) ∧
  ∀ (s t : State) (c : Chan) (v : Word), exec (rdInstr c .dmacr) s = .next t → t.ret = .word v →
    v.getLsbD 3 = false ∧ v.getLsbD 4 = false

/-- R184, R280, R80: a RESET write through either channel's DMACR sets both channels to their reset values and rst_busy,
lowers both interrupt outputs, and changes no memory, host or driver state; snap and xres are free, so nothing is said of
them. -/
def Obligations.SoftResetResetsBothChannels : Prop :=
  ∀ (s : State) (c : Chan) (v : Word), s.rstBusy = false → v.getLsbD 3 = false → v.getLsbD 4 = false →
    v.getLsbD 2 = true → ∃ t, exec (wrInstr c .dmacr v) s = .next t ∧ t.rstBusy = true ∧
      (∀ d, (t.eng.get d).cr = ⟨false, false, false, false, 1, 0⟩ ∧
        (t.eng.get d).sr = ⟨false, false, false, false, false, false, false, false, false⟩ ∧
        (t.eng.get d).curdesc = 0 ∧ (t.eng.get d).taildesc = 0 ∧ (t.eng.get d).fp = 0 ∧
        (t.eng.get d).phase = .halted ∧ (t.eng.get d).cnt = 1 ∧ (t.eng.get d).armed = false ∧
        irqOut (t.eng.get d) = false) ∧
      SameHost (s.answer .unit) t ∧ t.outs = s.outs ∧ t.mem = s.mem ∧ t.turns = s.turns ∧ t.bodies = s.bodies

/-- R182, R185: any other DMACR write stores the fields, moves a halted channel with RS = 1 to IDLE, and stores the
threshold, restarting the countdown only when it changes; a threshold of 0 stores a draw in 1..255, and each of them is
possible. The pending bits stay. -/
def Obligations.DmacrWriteStoresTheFields : Prop :=
  (∀ (s : State) (c : Chan) (v : Word), s.rstBusy = false → v.getLsbD 2 = false → v.getLsbD 3 = false →
    v.getLsbD 4 = false → ∃ th : BitVec 8, th ≠ 0 ∧ (v.extractLsb' 16 8 ≠ 0 → th = v.extractLsb' 16 8) ∧
      exec (wrInstr c .dmacr v) s = .next (((s.setEng c { s.eng.get c with
        cr := ⟨v.getLsbD 0, v.getLsbD 12, v.getLsbD 13, v.getLsbD 14, th, v.extractLsb' 24 8⟩
        phase := if v.getLsbD 0 = true ∧ (s.eng.get c).phase = .halted then .idle else (s.eng.get c).phase
        cnt := if th = (s.eng.get c).cr.irqThreshold then (s.eng.get c).cnt else th }).spend
          (if v.extractLsb' 16 8 = 0 then 1 else 0)).answer .unit)) ∧
  ∀ (s t : State) (c : Chan) (v : Word) (th : BitVec 8), v.extractLsb' 16 8 = 0 → v.getLsbD 2 = false → th ≠ 0 →
    exec (wrInstr c .dmacr v) { s with draws := [th.toNat - 1] } = .next t → (t.eng.get c).cr.irqThreshold = th

/-- R188: a DMASR write clears exactly the pending bits it has a 1 for. -/
def Obligations.DmasrWriteAcknowledges : Prop :=
  ∀ (s : State) (c : Chan) (v : Word), s.rstBusy = false →
    exec (wrInstr c .dmasr v) s = .next ((s.setEng c { s.eng.get c with sr := { (s.eng.get c).sr with
      iocIrq := if v.getLsbD 12 then false else (s.eng.get c).sr.iocIrq
      dlyIrq := if v.getLsbD 13 then false else (s.eng.get c).sr.dlyIrq
      errIrq := if v.getLsbD 14 then false else (s.eng.get c).sr.errIrq } }).answer .unit)

/-- R186: a CURDESC half is written only while HALTED, the low half only 64-byte aligned, and FP follows. -/
def Obligations.CurdescWriteSetsTheFetchPointer : Prop :=
  ∀ (s : State) (c : Chan) (v : Word), s.rstBusy = false →
    ((s.eng.get c).phase ≠ .halted →
      exec (wrInstr c .curdescLsb v) s = .fault (.curdescWhileRunning c) ∧
      exec (wrInstr c .curdescMsb v) s = .fault (.curdescWhileRunning c)) ∧
    ((s.eng.get c).phase = .halted → v.extractLsb' 0 6 ≠ 0 →
      exec (wrInstr c .curdescLsb v) s = .fault (.misalignedDescriptorPointer c (v.setWidth 64))) ∧
    ((s.eng.get c).phase = .halted → v.extractLsb' 0 6 = 0 →
      exec (wrInstr c .curdescLsb v) s = .next ((s.setEng c { s.eng.get c with
        curdesc := (s.eng.get c).curdesc.extractLsb' 32 32 ++ v
        fp := (s.eng.get c).curdesc.extractLsb' 32 32 ++ v }).answer .unit)) ∧
    ((s.eng.get c).phase = .halted →
      exec (wrInstr c .curdescMsb v) s = .next ((s.setEng c { s.eng.get c with
        curdesc := v ++ (s.eng.get c).curdesc.extractLsb' 0 32
        fp := v ++ (s.eng.get c).curdesc.extractLsb' 0 32 }).answer .unit))

/-- R187, R252: a TAILDESC_LSB write is stored if it is 64-byte aligned, and starts a walk exactly when the channel is
IDLE, whatever the value; a TAILDESC_MSB write is stored and starts nothing. -/
def Obligations.TaildescWriteTriggersTheWalk : Prop :=
  ∀ (s : State) (c : Chan) (v : Word), s.rstBusy = false →
    (v.extractLsb' 0 6 ≠ 0 →
      exec (wrInstr c .taildescLsb v) s = .fault (.misalignedDescriptorPointer c (v.setWidth 64))) ∧
    (v.extractLsb' 0 6 = 0 →
      exec (wrInstr c .taildescLsb v) s = .next ((s.setEng c { s.eng.get c with
        taildesc := (s.eng.get c).taildesc.extractLsb' 32 32 ++ v
        phase := if (s.eng.get c).phase = .idle then .fetch else (s.eng.get c).phase }).answer .unit)) ∧
    exec (wrInstr c .taildescMsb v) s = .next ((s.setEng c { s.eng.get c with
      taildesc := v ++ (s.eng.get c).taildesc.extractLsb' 0 32 }).answer .unit)

/-! Host primitives (41_host_primitives.md, 20_memory.md). -/

/-- R220, R108: an aligned load the bus accepts returns the youngest pending store of the word if there is one, else the
bytes of the host's path (the cache line's where the line is cached, else memory's), and changes only the cache and the
draws: where no pending store and no cached line gave the word, the word's lines may join the cache, clean, with memory's
bytes. In COHERENT mode it changes nothing. Otherwise it is refused. -/
def Obligations.LoadReturnsTheYoungestStore : Prop :=
  ∀ (s : State) (a : Addr),
    (a.toNat % 4 ≠ 0 → exec (.ld32 a) s = .fault (.misalignedHostAccess a)) ∧
    (a.toNat % 4 = 0 → busResp s.cfg a 4 false ≠ .okay → exec (.ld32 a) s = .fault (.hostBusError a)) ∧
    (a.toNat % 4 = 0 → busResp s.cfg a 4 false = .okay →
      ∃ v ls ds n, exec (.ld32 a) s = .next ({ s with cache := ls, draws := ds, drawNo := n }.answer (.word v)) ∧
        (∀ pre w post, s.sb = pre ++ ⟨a, w⟩ :: post → (∀ e ∈ post, e.addr ≠ a) → v = w) ∧
        ((∀ e ∈ s.sb, e.addr ≠ a) → ∀ k, k < 4 →
          v.extractLsb' (8 * k) 8 = s.hostByte ((a.toNat + k) % 2 ^ 64)) ∧
        (ls = s.cache ∨ s.cfg.cacheMode = .noncoherent ∧ (∀ e ∈ s.sb, e.addr ≠ a) ∧
          ∀ l, l ∈ ls ↔ l ∈ s.cache ∨ ∃ k b, k < 4 ∧ b = (a.toNat + k) % 2 ^ 64 / s.cfg.line * s.cfg.line ∧
            uncachedRing s.cfg ((a.toNat + k) % 2 ^ 64) = false ∧ (∀ m ∈ s.cache, m.base ≠ b) ∧
            l = ⟨b, s.mem.readBytes b s.cfg.line, false⟩) ∧
        (s.cfg.cacheMode = .coherent → ls = s.cache ∧ ds = s.draws ∧ n = s.drawNo ∧
          ((∀ e ∈ s.sb, e.addr ≠ a) → v = s.mem.readWord a)))

/-- R221, R106, R123: an aligned store joins the store buffer and changes nothing else, memory included; a misaligned one is
refused. No step of an engine depends on the store buffer or changes it: the entries are not visible to the engine. -/
def Obligations.StoreWaitsInTheBuffer : Prop :=
  (∀ (s : State) (a : Addr) (v : Word),
    (a.toNat % 4 = 0 → exec (.st32 a v) s = .next ({ s with sb := s.sb ++ [(⟨a, v⟩ : SbEntry)] }.answer .unit)) ∧
    (a.toNat % 4 ≠ 0 → exec (.st32 a v) s = .fault (.misalignedHostAccess a))) ∧
  ∀ (s : State) (i : Instr) (c : Chan) (b : List SbEntry), engineChan i = some c →
    exec i { s with sb := b } = mapNext (fun t => { t with sb := b }) (exec i s)

/-- R222, R109: FENCE completes when the store buffer is empty; until then the context stays before it and its turn changes
nothing (log entry 21). -/
def Obligations.FenceWaitsForTheBuffer : Prop :=
  (∀ s : State, s.sb = [] → exec .fence s = .next (s.answer .unit)) ∧
  ∀ (s : State) (rest : List Item), paramsValid s.cfg = true → s.code = .op .fence :: rest →
    (s.sb = [] → stepAs .host s = .next ((s.setCode rest).answer .unit).settle) ∧
    (s.sb ≠ [] → stepAs .host s = .next s)

/-- R107, R111: ENV_DRAIN takes an entry with no older entry for its word, and any such entry can be the one, with the line
filled or not where that is open; the store is refused where P_BUS is not OKAY. In COHERENT mode it writes the entry's word to
memory. In NONCOHERENT mode it writes the word's bytes in ascending addresses (log entry 16): a byte of a host-uncached ring
goes to memory; a byte of a cached line is stored in the line, which becomes dirty, memory unchanged; and where the line is
not cached, either the line joins the cache with memory's bytes, the byte stored in it and dirty, or the byte goes to memory
and the cache is unchanged. -/
def Obligations.DrainTakesAnOldestEntry : Prop :=
  (∀ s : State, s.sb ≠ [] → ∃ pre e post, s.sb = pre ++ e :: post ∧ (∀ x ∈ pre, x.addr ≠ e.addr) ∧
    (busResp s.cfg e.addr 4 true ≠ .okay → exec .envDrain s = .fault (.hostBusError e.addr)) ∧
    (busResp s.cfg e.addr 4 true = .okay → ∃ alloc,
      exec .envDrain s =
        .next (({ s with sb := pre ++ post }.drainBytes alloc e.addr.toNat (wordBytes e.val)).spend 1))) ∧
  (∀ (s : State) (pre : List SbEntry) (e : SbEntry) (post : List SbEntry) (alloc : Bool), s.sb = pre ++ e :: post →
    (∀ x ∈ pre, x.addr ≠ e.addr) → busResp s.cfg e.addr 4 true = .okay →
    ∃ d, exec .envDrain { s with draws := d :: s.draws } =
      .next ({ s with sb := pre ++ post }.drainBytes alloc e.addr.toNat (wordBytes e.val))) ∧
  (∀ (s : State) (alloc : Bool) (a : Addr) (v : Word), s.cfg.cacheMode = .coherent →
    s.drainBytes alloc a.toNat (wordBytes v) = s.setMem (s.mem.writeBytes a.toNat (wordBytes v))) ∧
  (∀ (s : State) (alloc : Bool) (a : Addr) (v : Word), a.toNat % 4 = 0 →
    s.drainBytes alloc a.toNat (wordBytes v) = (((s.drainByte alloc a.toNat (v.extractLsb' 0 8)).drainByte alloc
      (a.toNat + 1) (v.extractLsb' 8 8)).drainByte alloc (a.toNat + 2) (v.extractLsb' 16 8)).drainByte alloc
      (a.toNat + 3) (v.extractLsb' 24 8)) ∧
  ∀ (s : State) (alloc : Bool) (x base : Nat) (b : Byte), s.cfg.cacheMode = .noncoherent → basesRise s.cache = true →
    base = x / s.cfg.line * s.cfg.line →
    (uncachedRing s.cfg x = true → s.drainByte alloc x b = s.setMem (s.mem.write x b)) ∧
    (uncachedRing s.cfg x = false →
      (∀ l ∈ s.cache, l.base = base → ∃ ls, s.drainByte alloc x b = s.setCache ls ∧ basesRise ls = true ∧
        ∀ k, k ∈ ls ↔ (k ∈ s.cache ∧ k ≠ l) ∨ k = ⟨base, l.bytes.set (x - base) b, true⟩) ∧
      ((∀ l ∈ s.cache, l.base ≠ base) →
        (alloc = false → s.drainByte alloc x b = s.setMem (s.mem.write x b)) ∧
        (alloc = true → ∃ ls, s.drainByte alloc x b = s.setCache ls ∧ basesRise ls = true ∧
          ∀ k, k ∈ ls ↔ k ∈ s.cache ∨ k = ⟨base, (s.mem.readBytes base s.cfg.line).set (x - base) b, true⟩)))

/-- A drain changes no word the host would load: the store was already forwarded, and reaches the cache line or memory
where the next load looks (R107, R108). -/
def Obligations.DrainIsInvisibleToTheHost : Prop :=
  ∀ (s t : State) (a : Addr), paramsValid s.cfg = true → Inv s → exec .envDrain s = .next t → a.toNat % 4 = 0 →
    t.loadWord a = s.loadWord a

/-- R223, R125: in COHERENT mode or for no bytes DC_FLUSH does nothing. Otherwise it writes to memory the bytes of every
dirty line that meets the range and is in no host-uncached ring, marks those lines clean, keeps every line cached, and
leaves every other byte of memory alone. -/
def Obligations.FlushCleansTheLines : Prop :=
  (∀ (s : State) (a : Addr) (n : Nat), s.cfg.cacheMode = .coherent ∨ n = 0 →
    exec (.dcFlush a n) s = .next (s.answer .unit)) ∧
  ∀ (s : State) (a : Addr) (n : Nat), paramsValid s.cfg = true → Inv s → s.cfg.cacheMode = .noncoherent →
    ∃ m ls, exec (.dcFlush a n) s = .next ({ s with mem := m, cache := ls }.answer .unit) ∧
      (∀ l ∈ s.cache, LineMeets s.cfg l a.toNat n → uncachedRing s.cfg l.base = false → l.dirty = true →
        ∀ j, j < s.cfg.line → m.read (l.base + j) = l.bytes.getD j 0) ∧
      (∀ x, x < 2 ^ 64 →
        (∀ l ∈ s.cache, LineMeets s.cfg l a.toNat n → uncachedRing s.cfg l.base = false → l.dirty = true →
          x < l.base ∨ l.base + s.cfg.line ≤ x) → m.read x = s.mem.read x) ∧
      ∀ l, l ∈ ls ↔ ∃ k ∈ s.cache,
        (LineMeets s.cfg k a.toNat n ∧ uncachedRing s.cfg k.base = false ∧ l = { k with dirty := false }) ∨
        (¬ (LineMeets s.cfg k a.toNat n ∧ uncachedRing s.cfg k.base = false) ∧ l = k)

/-- R224, R125: in COHERENT mode or for no bytes DC_INVAL does nothing. Otherwise it removes from the cache exactly the
lines that meet the range and are in no host-uncached ring, dirty or not, and writes no memory. -/
def Obligations.InvalidateDropsTheLines : Prop :=
  (∀ (s : State) (a : Addr) (n : Nat), s.cfg.cacheMode = .coherent ∨ n = 0 →
    exec (.dcInval a n) s = .next (s.answer .unit)) ∧
  ∀ (s : State) (a : Addr) (n : Nat), paramsValid s.cfg = true → Inv s → s.cfg.cacheMode = .noncoherent →
    ∃ ls, exec (.dcInval a n) s = .next ((s.setCache ls).answer .unit) ∧ ls.Sublist s.cache ∧
      ∀ l, l ∈ ls ↔ l ∈ s.cache ∧ ¬ (LineMeets s.cfg l a.toNat n ∧ uncachedRing s.cfg l.base = false)

/-- R225 to R227: the line primitives set, clear and read the enable of one of the two lines; any other line is refused. -/
def Obligations.LinePrimitives : Prop :=
  ∀ s : State, paramsValid s.cfg = true →
    (∀ c, exec (.irqEnable (s.cfg.irq.get c)) s = .next ((s.setEn c true).answer .unit) ∧
      exec (.irqDisable (s.cfg.irq.get c)) s = .next ((s.setEn c false).answer .unit) ∧
      exec (.irqIsEnabled (s.cfg.irq.get c)) s = .next (s.answer (.bool (s.lines.get c).en))) ∧
    ∀ l, (∀ c, l ≠ s.cfg.irq.get c) → exec (.irqEnable l) s = .fault .badConfiguration ∧
      exec (.irqDisable l) s = .fault .badConfiguration ∧ exec (.irqIsEnabled l) s = .fault .badConfiguration

/-- R228, R229: CS_ENTER saves the mask of its mode in the key and masks; CS_EXIT puts the saved mask back; and so a section
ends with the mask it began with. -/
def Obligations.CriticalSectionsMaskAndRestore : Prop :=
  (∀ (s : State) (c : Chan), paramsValid s.cfg = true → (s.ch.get c).irq = s.cfg.irq.get c →
    exec (.csEnter (chanNum c)) s = .next (match s.cfg.csMode with
      | .global => { s with gie := false }.answer (.key (.global s.gie))
      | .bothLines => ((s.setEn .tx false).setEn .rx false).answer (.key (.both s.lines.tx.en s.lines.rx.en))
      | .channelLine => (s.setEn c false).answer (.key (.line (s.cfg.irq.get c) (s.lines.get c).en)))) ∧
  (∀ (s : State) (g t r e : Bool) (c : Chan), paramsValid s.cfg = true →
    exec (.csExit (.global g)) s = .next ({ s with gie := g }.answer .unit) ∧
    exec (.csExit (.both t r)) s = .next (((s.setEn .tx t).setEn .rx r).answer .unit) ∧
    exec (.csExit (.line (s.cfg.irq.get c) e)) s = .next ((s.setEn c e).answer .unit)) ∧
  ∀ (s : State) (c : Chan), paramsValid s.cfg = true → (s.ch.get c).irq = s.cfg.irq.get c →
    ∃ t key u, exec (.csEnter (chanNum c)) s = .next t ∧ t.ret = .key key ∧ exec (.csExit key) t = .next u ∧
      u = s.answer .unit

/-- R230 to R232: SLEEP changes nothing but the value returned; LOG appends its message; CALLBACK appends its entry and
puts a body of driver procedure calls, the next one of the run's own if there is one, before the context's code. That it does
so where the channel has no callback too is log entry 29's; that the body is the run's next list, its other items left out, is
log entry 4's. -/
def Obligations.SleepLogAndCallback : Prop :=
  (∀ s : State, exec .sleep s = .next (s.answer .unit)) ∧
  (∀ (s : State) (m : String), exec (.log m) s = .next ({ s with logs := s.logs ++ [m] }.answer .unit)) ∧
  ∀ (s : State) (c : Chan) (r : CbResult), ∃ (body : List Instr) (bs : List (List Instr)) (n : Nat),
    exec (.callback (chanNum c) r) s = .next ((({ s with
      cblog := s.cblog ++ [⟨c, (s.ch.get c).ud, r⟩], bodies := bs, bodyNo := n } : State).answer .unit).push (body.map .op)) ∧
    (∀ i ∈ body, i.opClass = .proc) ∧
    ∀ b bs', s.bodies = b :: bs' → body = b.filter (fun i => decide (i.opClass = .proc)) ∧ bs = bs' ∧ n = s.bodyNo

/-! Driver procedures (43_ring.md to 47_controller.md). -/

/-- R310, R330 to R332, R350, R365, R370, R390: the checks at entry. A number that names no channel is a bad configuration
for the internal procedures and EINVAL for the entry points; an unready device and an unconfigured channel are faults, as is
a second INIT; CONFIGURE refuses DECREMENT and the wrong direction with ENOTSUP; INIT with another channel count than 2 fails
with EINVAL. CONFIGURE on the channel being reclaimed, as from the body of its callback, is a bad configuration (R231, R415;
log entry 15). The order of the channel check and the others is log entry 13's. -/
def Obligations.ProcedureChecks : Prop :=
  (∀ (s : State) (c : Nat) (buf src dst : Addr) (len : Word) (f l : Bool) (q : CfgReq), 2 ≤ c →
    exec (.relink c) s = .fault .badConfiguration ∧ exec (.populate c buf len f l) s = .fault .badConfiguration ∧
    exec (.reclaim c) s = .fault .badConfiguration ∧ exec (.start c) s = .next (s.answer (.code .einval)) ∧
    exec (.stop c) s = .next (s.answer (.code .einval)) ∧ exec (.getStatus c) s = .next (s.answer (.code .einval)) ∧
    exec (.configure c q) s = .next (s.answer (.code .einval)) ∧
    exec (.reload c src dst len) s = .next (s.answer (.code .einval))) ∧
  (∀ (s : State) (c : Chan) (buf src dst : Addr) (len : Word) (f l : Bool) (q : CfgReq), s.ctl ≠ .ready →
    exec (.relink (chanNum c)) s = .fault .deviceUnusable ∧
    exec (.populate (chanNum c) buf len f l) s = .fault .deviceUnusable ∧
    exec (.reclaim (chanNum c)) s = .fault .deviceUnusable ∧ exec (.start (chanNum c)) s = .fault .deviceUnusable ∧
    exec (.stop (chanNum c)) s = .fault .deviceUnusable ∧ exec (.getStatus (chanNum c)) s = .fault .deviceUnusable ∧
    exec (.isr (chanNum c)) s = .fault .deviceUnusable ∧ exec (.configure (chanNum c) q) s = .fault .deviceUnusable ∧
    exec (.reload (chanNum c) src dst len) s = .fault .deviceUnusable) ∧
  (∀ (s : State) (c : Chan) (buf : Addr) (len : Word) (f l : Bool), s.ctl = .ready → (s.ch.get c).configured = false →
    exec (.populate (chanNum c) buf len f l) s = .fault (.unconfiguredChannel c) ∧
    exec (.reclaim (chanNum c)) s = .fault (.unconfiguredChannel c) ∧
    exec (.start (chanNum c)) s = .fault (.unconfiguredChannel c)) ∧
  (∀ (s : State) (c : Chan) (q : CfgReq), s.ctl = .ready → s.reclaiming c = false →
    (q.srcAdj = .decrement ∨ q.dstAdj = .decrement ∨ q.direction ≠ (s.ch.get c).dir) →
    exec (.configure (chanNum c) q) s = .next (s.answer (.code .enotsup))) ∧
  (∀ (s : State) (c : Chan) (q : CfgReq), s.ctl = .ready → s.reclaiming c = true →
    exec (.configure (chanNum c) q) s = .fault .badConfiguration) ∧
  (∀ (s : State) (c : Chan) (r : CbResult) (q : CfgReq) (bs : List (List Instr)) (rest : List Item) (key : Key) (n : Nat),
    paramsValid s.cfg = true → s.ctl = .ready → s.code = .op (.callback (chanNum c) r) :: rest →
    .cont (.rcNext c key n) ∈ rest → s.bodies = [.configure (chanNum c) q] :: bs →
    hostRun 2 s = .fault .badConfiguration) ∧
  (∀ s : State, s.ctl ≠ .uninit → exec .init s = .fault .reInit) ∧
  ∀ s : State, s.ctl = .uninit → s.cfg.channels ≠ 2 →
    exec .init s = .next ({ s with ctl := .failed }.answer (.code .einval))

/-- R171, R300 to R302, R330 to R332, R350, R365, R370, R390: past its checks each procedure puts its expansion before the
context's code, and changes nothing else but, for INIT, the wiring of the records. -/
def Obligations.ProceduresExpand : Prop :=
  (∀ (s : State) (c : Chan), s.ctl = .ready →
    exec (.relink (chanNum c)) s = .next (s.push (relinkCode s.cfg c (s.ch.get c))) ∧
    exec (.stop (chanNum c)) s = .next (s.push [.op (.csEnter (chanNum c)), .cont (.stopKey c)]) ∧
    exec (.getStatus (chanNum c)) s = .next (s.push [.op (rdInstr c .dmasr), .cont .statusSr]) ∧
    exec (.isr (chanNum c)) s =
      .next (s.push [.op (.irqIsEnabled (s.ch.get c).irq), .cont (.isrWas c (s.ch.get c).irq)]) ∧
    ∀ (src dst : Addr) (n : Word), exec (.reload (chanNum c) src dst n) s =
      .next (s.push [.op (.populate (chanNum c) (if c = .tx then src else dst) n true true)])) ∧
  (∀ (s : State) (c : Chan), s.ctl = .ready → (s.ch.get c).configured = true →
    exec (.reclaim (chanNum c)) s = .next (s.push [.op (.csEnter (chanNum c)), .cont (.rcKey c)]) ∧
    exec (.start (chanNum c)) s = .next (s.push [.op (.csEnter (chanNum c)), .cont (.startKey c)]) ∧
    ∀ (buf : Addr) (n : Word) (f l : Bool), exec (.populate (chanNum c) buf n f l) s =
      .next (s.push [.op (.csEnter (chanNum c)), .cont (.popSlot ⟨c, buf, n, f, l⟩)])) ∧
  (∀ (s : State) (c : Chan) (q : CfgReq), s.ctl = .ready → s.reclaiming c = false → q.srcAdj ≠ .decrement →
    q.dstAdj ≠ .decrement → q.direction = (s.ch.get c).dir →
    exec (.configure (chanNum c) q) s = .next (s.push [.op (.csEnter (chanNum c)), .cont (.cfgKey c q)])) ∧
  ∀ s : State, s.ctl = .uninit → s.cfg.channels = 2 →
    exec .init s = .next (({ s with ch :=
      ⟨{ s.ch.tx with ring := s.cfg.ring.tx, cap := s.cfg.cap.tx, base := s.cfg.base, irq := s.cfg.irq.tx,
                      dir := .memToPeriph },
       { s.ch.rx with ring := s.cfg.ring.rx, cap := s.cfg.cap.rx, base := s.cfg.base + 0x30, irq := s.cfg.irq.rx,
                      dir := .periphToMem }⟩ } : State).push [.op (.wrTxDmacr 4), .cont (.initPoll 1)])

/-- R372, R367: the channel filter, in any state; and what the linked-mode selector leaves in the record, any other value
ending CONFIGURE with EINVAL and changing nothing. -/
def Obligations.FilterAndLinkedMode : Prop :=
  (∀ (s : State) (c : Nat) (tag : String),
    exec (.chanFilter c tag) s = .next (s.answer (.bool (decide ((c = 0 ∧ tag = "tx") ∨ (c = 1 ∧ tag = "rx")))))) ∧
  ∀ (p : Params) (c : Chan) (m : Int) (r : Record),
    (m = p.linkedNoCsum → linkedMode p c m r = some { r with app0 := 0, csumChk := false }) ∧
    (m ≠ p.linkedNoCsum → m = p.linkedFullCsum → linkedMode p .tx m r = some { r with app0 := p.app0CsumFull, csumChk := false } ∧
      linkedMode p .rx m r = some { r with app0 := 0, csumChk := true }) ∧
    (m ≠ p.linkedNoCsum → m ≠ p.linkedFullCsum → linkedMode p c m r = none ∧
      ∀ (s : State) (q : CfgReq), s.cfg = p → s.ch.get c = r → q.linked = m → cfgLinked c q s = s.answer (.code .einval))

/-- R300, R71: a quiet run of RELINK in COHERENT mode links descriptor i to descriptor (i + 1) mod cap, for every i of the
ring and every capacity: one closed cycle. It changes no other byte of memory, and nothing of the engine, the records or the
masks. In every cache mode a quiet run closes the ring in memory and as the host loads it; no byte outside the ring changes in
memory, no byte but the links as the host sees it, and no line outside the ring in the cache; a cached ring is left with no
dirty line (its DC_FLUSH). -/
def Obligations.RelinkClosesTheRing : Prop :=
  (∀ (s : State) (c : Chan) (rest : List Item), AboutTo s (.relink (chanNum c)) rest → s.ctl = .ready → Inv s →
    s.cfg.cacheMode = .coherent → s.sb = [] →
    (∀ i, i < s.cfg.cap.get c → busResp s.cfg (descAddr s.cfg c i) 4 true = .okay ∧
      busResp s.cfg (descAddr s.cfg c i + 4) 4 true = .okay) →
    ∃ n t, quietRun n s = .next t ∧ t.code = rest ∧ t.sb = [] ∧
      (∀ i, i < s.cfg.cap.get c →
        t.mem.readWord (descAddr s.cfg c i + 4) ++ t.mem.readWord (descAddr s.cfg c i) =
          descAddr s.cfg c ((i + 1) % s.cfg.cap.get c)) ∧
      (∀ x, (∀ i, i < s.cfg.cap.get c →
        x < (descAddr s.cfg c i).toNat ∨ (descAddr s.cfg c i).toNat + 8 ≤ x) → t.mem.read x = s.mem.read x) ∧
      t.eng = s.eng ∧ t.ch = s.ch ∧ t.lines = s.lines ∧ t.gie = s.gie ∧ t.cblog = s.cblog ∧ t.logs = s.logs ∧ SameRest s t) ∧
  ∀ (s : State) (c : Chan) (rest : List Item), AboutTo s (.relink (chanNum c)) rest → s.ctl = .ready → Inv s → s.sb = [] →
    (∀ i, i < s.cfg.cap.get c → busResp s.cfg (descAddr s.cfg c i) 4 true = .okay ∧
      busResp s.cfg (descAddr s.cfg c i + 4) 4 true = .okay) →
    ∃ n t, quietRun n s = .next t ∧ t.code = rest ∧ t.sb = [] ∧
      LinksClose s.cfg c t.mem.readWord ∧ LinksClose s.cfg c t.loadWord ∧
      (∀ x, inRingOf s.cfg c x = false → t.mem.read x = s.mem.read x) ∧
      (∀ x, ¬ LinkByte s.cfg c x → t.hostByte x = s.hostByte x) ∧
      (s.cfg.cacheMode = .coherent ∨ s.cfg.descUncached = true →
        t.cache = s.cache ∧ ∀ x, ¬ LinkByte s.cfg c x → t.mem.read x = s.mem.read x) ∧
      (∀ l, inRingOf s.cfg c l.base = false → (l ∈ t.cache ↔ l ∈ s.cache)) ∧
      (s.cfg.descUncached = false → ∀ l ∈ t.cache, inRingOf s.cfg c l.base = true → l.dirty = false) ∧
      t.eng = s.eng ∧ t.ch = s.ch ∧ t.cblog = s.cblog ∧ SameAround s t

/-- R301, R161, R164: a quiet run of POPULATE in COHERENT mode, on a slot the host sees free, writes the buffer address, APP0
and CONTROL of the slot after pop and no other byte, moves pop there, restores the mask and returns OK. In every cache mode a
quiet run on a slot the host sees free, of a block that fits, leaves the four words in memory and as the host loads them and no
other byte of memory outside the slot changed; an RX buffer's lines leave the cache, so that the host sees memory's bytes there
(its DC_INVAL); every other byte stays as the host sees it, and every other line outside the slot as it is cached; a cached
slot is left with no dirty line (its DC_FLUSH). -/
def Obligations.PopulateWritesTheDescriptor : Prop :=
  (∀ (s : State) (c : Chan) (buf : Addr) (len : Word) (first last : Bool) (rest : List Item) (ni : Nat) (d : Addr),
    AboutTo s (.populate (chanNum c) buf len first last) rest → s.ctl = .ready → (s.ch.get c).configured = true →
    Inv s → s.cfg.cacheMode = .coherent → s.sb = [] → ni = ((s.ch.get c).pop + 1) % s.cfg.cap.get c →
    d = descAddr s.cfg c ni → (∀ k w, k < 16 → busResp s.cfg (d + BitVec.ofNat 64 (4 * k)) 4 w = .okay) →
    s.mem.readWord (d + 0x18) = 0 → s.mem.readWord (d + 0x1C) = 0 → len.toNat ≤ 2 ^ 26 - 1 →
    ∃ n t, quietRun n s = .next t ∧ t.code = rest ∧ t.ret = .code .ok ∧ t.sb = [] ∧
      t.mem.readWord (d + 0x08) = buf.extractLsb' 0 32 ∧ t.mem.readWord (d + 0x0C) = buf.extractLsb' 32 32 ∧
      t.mem.readWord (d + 0x20) = (s.ch.get c).app0 ∧ t.mem.readWord (d + 0x18) = controlWord len first last ∧
      (∀ x, (x < d.toNat + 8 ∨ d.toNat + 16 ≤ x) → (x < d.toNat + 0x18 ∨ d.toNat + 0x1C ≤ x) →
        (x < d.toNat + 0x20 ∨ d.toNat + 0x24 ≤ x) → t.mem.read x = s.mem.read x) ∧
      t.ch = s.ch.set c { s.ch.get c with pop := ni } ∧ t.eng = s.eng ∧ t.lines = s.lines ∧ t.gie = s.gie ∧
      t.cblog = s.cblog ∧ t.logs = s.logs ∧ SameRest s t) ∧
  ∀ (s : State) (c : Chan) (buf : Addr) (len : Word) (first last : Bool) (rest : List Item) (ni : Nat) (d : Addr),
    AboutTo s (.populate (chanNum c) buf len first last) rest → s.ctl = .ready → (s.ch.get c).configured = true →
    Inv s → s.sb = [] → ni = ((s.ch.get c).pop + 1) % s.cfg.cap.get c → d = descAddr s.cfg c ni →
    (∀ k w, k < 16 → busResp s.cfg (d + BitVec.ofNat 64 (4 * k)) 4 w = .okay) →
    SlotFree s d → BlockFits s.cfg c buf len →
    ∃ n t, quietRun n s = .next t ∧ t.code = rest ∧ t.ret = .code .ok ∧ t.sb = [] ∧
      HoldsBlock t.mem.readWord d buf (s.ch.get c).app0 (controlWord len first last) ∧
      HoldsBlock t.loadWord d buf (s.ch.get c).app0 (controlWord len first last) ∧
      (∀ x, ¬ InSpan d.toNat 64 x → t.mem.read x = s.mem.read x) ∧
      (s.cfg.cacheMode = .coherent ∨ s.cfg.descUncached = true →
        ∀ x, ¬ PopulatedByte d x → t.mem.read x = s.mem.read x) ∧
      (∀ x, ¬ PopulatedByte d x →
        (c = .rx → Invalidated s.cfg buf len.toNat x → t.hostByte x = s.mem.read x) ∧
        (¬ (c = .rx ∧ Invalidated s.cfg buf len.toNat x) → t.hostByte x = s.hostByte x)) ∧
      (∀ l, ¬ InSpan d.toNat 64 l.base ∨ uncachedRing s.cfg l.base = true → (l ∈ t.cache ↔ l ∈ s.cache ∧
        ¬ (c = .rx ∧ LineMeets s.cfg l buf.toNat len.toNat ∧ uncachedRing s.cfg l.base = false))) ∧
      (∀ l ∈ t.cache, InSpan d.toNat 64 l.base → uncachedRing s.cfg l.base = false → l.dirty = false) ∧
      t.ch = s.ch.set c { s.ch.get c with pop := ni } ∧ t.eng = s.eng ∧ t.cblog = s.cblog ∧ SameAround s t

/-- R301, R305: POPULATE on a slot the host sees with CONTROL or STATUS not 0 returns EBUSY; on a free one it returns EINVAL
for a block of 2^26 bytes or more, and for an RX buffer that is not line-aligned in NONCOHERENT mode. It then issues no store
and changes no cursor, mask, byte or register. Rings are in memory as the host sees it: COHERENT mode, or uncached. -/
def Obligations.PopulateRefusesWithoutEffect : Prop :=
  ∀ (s : State) (c : Chan) (buf : Addr) (len : Word) (first last : Bool) (rest : List Item) (d : Addr) (r : Code),
    AboutTo s (.populate (chanNum c) buf len first last) rest → s.ctl = .ready → (s.ch.get c).configured = true →
    Inv s → (s.cfg.cacheMode = .coherent ∨ s.cfg.descUncached = true) →
    d = descAddr s.cfg c (((s.ch.get c).pop + 1) % s.cfg.cap.get c) →
    busResp s.cfg (d + 0x18) 4 false = .okay → busResp s.cfg (d + 0x1C) 4 false = .okay →
    ((r = .ebusy ∧ (s.loadWord (d + 0x18) ≠ 0 ∨ s.loadWord (d + 0x1C) ≠ 0)) ∨
     (r = .einval ∧ s.loadWord (d + 0x18) = 0 ∧ s.loadWord (d + 0x1C) = 0 ∧
       (2 ^ 26 ≤ len.toNat ∨ (c = .rx ∧ s.cfg.cacheMode = .noncoherent ∧
         (buf.toNat % s.cfg.line ≠ 0 ∨ len.toNat % s.cfg.line ≠ 0))))) →
    ∃ n t, hostRun n s = .next t ∧ t.code = rest ∧ t.ret = .code r ∧ t.sb = s.sb ∧ t.mem = s.mem ∧
      t.cache = s.cache ∧ t.ch = s.ch ∧ t.eng = s.eng ∧ t.lines = s.lines ∧ t.gie = s.gie ∧ t.cblog = s.cblog ∧
      t.logs = s.logs ∧ SameRest s t

/-- R302, R70: RECLAIM of a ring whose descriptor at cmp the host sees unfinished returns 0 and changes nothing. -/
def Obligations.ReclaimStopsAtAnUnfinishedDescriptor : Prop :=
  ∀ (s : State) (c : Chan) (rest : List Item) (d : Addr), AboutTo s (.reclaim (chanNum c)) rest → s.ctl = .ready →
    (s.ch.get c).configured = true → Inv s → (s.cfg.cacheMode = .coherent ∨ s.cfg.descUncached = true) →
    d = descAddr s.cfg c (s.ch.get c).cmp → busResp s.cfg (d + 0x1C) 4 false = .okay →
    (s.loadWord (d + 0x1C)).extractLsb' 26 6 = 0 →
    ∃ n t, hostRun n s = .next t ∧ t.code = rest ∧ t.ret = .count 0 ∧ t.sb = s.sb ∧ t.mem = s.mem ∧
      t.cache = s.cache ∧ t.ch = s.ch ∧ t.eng = s.eng ∧ t.lines = s.lines ∧ t.gie = s.gie ∧ t.cblog = s.cblog ∧
      t.logs = s.logs ∧ SameRest s t

/-- R302, R306, R405: a quiet run of RECLAIM in COHERENT mode that finds one finished descriptor, the next one unfinished.
It returns 1, calls the callback back once if there is one, with RES_FAULT exactly when STATUS has an error bit or the
inspected checksum word a masked bit, clears the descriptor's CONTROL and STATUS and no other byte, moves cmp on, and on RX
keeps the received length. The callback's body is empty. ReclaimReturnsEveryFinishedDescriptor says it of passes over any
number of descriptors, in every cache mode. -/
def Obligations.ReclaimReturnsOneDescriptor : Prop :=
  ∀ (s : State) (c : Chan) (rest : List Item) (d d1 : Addr) (sts : Word) (fault : Bool),
    AboutTo s (.reclaim (chanNum c)) rest → s.ctl = .ready → (s.ch.get c).configured = true → Inv s →
    s.cfg.cacheMode = .coherent → s.sb = [] → d = descAddr s.cfg c (s.ch.get c).cmp →
    d1 = descAddr s.cfg c (((s.ch.get c).cmp + 1) % s.cfg.cap.get c) →
    (∀ k w, k < 16 → busResp s.cfg (d + BitVec.ofNat 64 (4 * k)) 4 w = .okay) →
    busResp s.cfg (d1 + 0x1C) 4 false = .okay → sts = s.mem.readWord (d + 0x1C) → sts.extractLsb' 26 6 ≠ 0 →
    (s.mem.readWord (d1 + 0x1C)).extractLsb' 26 6 = 0 →
    fault = (decide (sts.extractLsb' 28 3 ≠ 0) || ((s.ch.get c).csumChk &&
      decide (s.mem.readWord (d + BitVec.ofNat 64 (0x20 + 4 * s.cfg.csumWord)) &&&
        (s.cfg.fcsErr ||| s.cfg.ipErr ||| s.cfg.udpErr ||| s.cfg.tcpErr) ≠ 0))) →
    ((s.ch.get c).cb = none ∨ ∃ bs, s.bodies = [] :: bs) →
    ∃ n t, quietRun n s = .next t ∧ t.code = rest ∧ t.ret = .count 1 ∧ t.sb = [] ∧
      t.cblog = (if (s.ch.get c).cb = none then s.cblog
        else s.cblog ++ [⟨c, (s.ch.get c).ud, if fault then .fault else .ok⟩]) ∧
      t.mem.readWord (d + 0x18) = 0 ∧ t.mem.readWord (d + 0x1C) = 0 ∧
      (∀ x, (x < d.toNat + 0x18 ∨ d.toNat + 0x20 ≤ x) → t.mem.read x = s.mem.read x) ∧
      t.ch = s.ch.set c { s.ch.get c with
        cmp := ((s.ch.get c).cmp + 1) % s.cfg.cap.get c
        lastRx := if c = .rx then sts.extractLsb' 0 26 else (s.ch.get c).lastRx } ∧
      t.eng = s.eng ∧ t.lines = s.lines ∧ t.gie = s.gie ∧ t.logs = s.logs ∧ SameRest s t

/-- R330, R146, R460: a run of START on an empty store buffer writes DMACR only to a halted channel, then publishes the most
recently populated descriptor as the tail: a halted or idle channel is then in FETCH, any other keeps its phase. It restores
the mask and returns OK. Over pending stores it publishes nothing before they have drained: while the host alone moves, the
tail stays, no walk starts and the stores wait; in a quiet run, the stores being ones the bus accepts, they all drain first,
START then does the same, and the host loads every word as before, in COHERENT mode from memory. -/
def Obligations.StartPublishesTheTail : Prop :=
  ∀ (s : State) (c : Chan) (rest : List Item) (e : Eng), AboutTo s (.start (chanNum c)) rest → s.ctl = .ready →
    (s.ch.get c).configured = true → Inv s → s.rstBusy = false →
    e = { s.eng.get c with
        cr := if (s.eng.get c).phase = .halted then
            ⟨true, true, true, true, BitVec.ofNat 8 s.cfg.irqThreshold, BitVec.ofNat 8 s.cfg.irqDelay⟩
          else (s.eng.get c).cr
        cnt := if (s.eng.get c).phase = .halted ∧ BitVec.ofNat 8 s.cfg.irqThreshold ≠ (s.eng.get c).cr.irqThreshold
          then BitVec.ofNat 8 s.cfg.irqThreshold else (s.eng.get c).cnt
        taildesc := descAddr s.cfg c (s.ch.get c).pop
        phase := if (s.eng.get c).phase = .halted ∨ (s.eng.get c).phase = .idle then .fetch
          else (s.eng.get c).phase } →
    (s.sb = [] →
      ∃ n t, hostRun n s = .next t ∧ t.code = rest ∧ t.ret = .code .ok ∧ t.eng = s.eng.set c e ∧
        t.sb = [] ∧ t.mem = s.mem ∧ t.cache = s.cache ∧ t.ch = s.ch ∧ t.lines = s.lines ∧ t.gie = s.gie ∧
        t.cblog = s.cblog ∧ t.logs = s.logs ∧ SameRest s t) ∧
    (s.sb ≠ [] → ∀ n, ∃ t, hostRun n s = .next t ∧ t.sb = s.sb ∧ t.mem = s.mem ∧
      (t.eng.get c).taildesc = (s.eng.get c).taildesc ∧
      ((t.eng.get c).phase = .fetch → (s.eng.get c).phase = .fetch) ∧
      t.eng.get (otherChan c) = s.eng.get (otherChan c)) ∧
    ((∀ p ∈ s.sb, busResp s.cfg p.addr 4 true = .okay) →
      ∃ n t, quietRun n s = .next t ∧ t.code = rest ∧ t.ret = .code .ok ∧ t.eng = s.eng.set c e ∧ t.sb = [] ∧
        (∀ a : Addr, a.toNat % 4 = 0 → t.loadWord a = s.loadWord a) ∧
        (s.cfg.cacheMode = .coherent →
          t.cache = s.cache ∧ ∀ a : Addr, a.toNat % 4 = 0 → t.mem.readWord a = s.loadWord a) ∧
        t.ch = s.ch ∧ t.cblog = s.cblog ∧ SameAround s t)

/-- R331: a run of STOP clears RS and no other field, whatever the draws of the reserved bits, leaves the phase to the
engine, restores the mask and returns OK. -/
def Obligations.StopClearsRunAlone : Prop :=
  ∀ (s : State) (c : Chan) (rest : List Item), AboutTo s (.stop (chanNum c)) rest → s.ctl = .ready → Inv s →
    s.rstBusy = false →
    ∃ n t, hostRun n s = .next t ∧ t.code = rest ∧ t.ret = .code .ok ∧
      t.eng = s.eng.set c { s.eng.get c with cr := { (s.eng.get c).cr with rs := false } } ∧
      t.sb = s.sb ∧ t.mem = s.mem ∧ t.cache = s.cache ∧ t.ch = s.ch ∧ t.lines = s.lines ∧ t.gie = s.gie ∧
      t.cblog = s.cblog ∧ t.logs = s.logs ∧ SameRest s t

/-- R332, R57: a run of GET_STATUS returns OK and busy exactly in FETCH, XFER and WB, whatever the draw of IDLE, and changes
nothing but the draws. R170: a run of the program line `status tD, tB, c` leaves the code in tD and busy in tB, and every other
program value; on a number that names no channel tD takes EINVAL. -/
def Obligations.StatusReportsBusy : Prop :=
  (∀ (s : State) (c : Chan) (rest : List Item), AboutTo s (.getStatus (chanNum c)) rest → s.ctl = .ready →
    ∃ n t, hostRun n s = .next t ∧ t.code = rest ∧
      t.ret = .status .ok (decide ((s.eng.get c).phase = .fetch ∨ (s.eng.get c).phase = .xfer ∨
        (s.eng.get c).phase = .wb)) ∧
      t.eng = s.eng ∧ t.sb = s.sb ∧ t.mem = s.mem ∧ t.cache = s.cache ∧ t.ch = s.ch ∧ t.lines = s.lines ∧
      t.gie = s.gie ∧ t.cblog = s.cblog ∧ t.logs = s.logs ∧ SameRest s t) ∧
  (∀ (s : State) (c : Chan) (d b : Nat) (rest : List Item), paramsValid s.cfg = true → s.ctl = .ready →
    s.code = .line { word := 0x8600, args := { c := chanNum c }, dst := some d, dst2 := some b } :: rest →
    (s.irqs = [] ∨ rest ≠ []) → d ≠ b →
    ∃ n t, hostRun n s = .next t ∧ t.code = rest ∧ lookupVal t.running.vals d = some (.code .ok) ∧
      lookupVal t.running.vals b = some (.bool (decide ((s.eng.get c).phase = .fetch ∨ (s.eng.get c).phase = .xfer ∨
        (s.eng.get c).phase = .wb))) ∧
      (∀ k, k ≠ d → k ≠ b → lookupVal t.running.vals k = lookupVal s.running.vals k) ∧
      t.eng = s.eng ∧ t.sb = s.sb ∧ t.mem = s.mem ∧ t.cblog = s.cblog ∧ t.logs = s.logs ∧ SameRest s t) ∧
  ∀ (s : State) (c d b : Nat) (rest : List Item), paramsValid s.cfg = true → 2 ≤ c →
    s.code = .line { word := 0x8600, args := { c := c }, dst := some d, dst2 := some b } :: rest →
    (s.irqs = [] ∨ rest ≠ []) →
    ∃ n t, hostRun n s = .next t ∧ t.code = rest ∧ lookupVal t.running.vals d = some (.code .einval) ∧
      t.eng = s.eng ∧ t.sb = s.sb ∧ t.mem = s.mem ∧ SameRest s t

/-- R350, R188: what a run of ISR does goes by its one DMASR read. With neither IOC nor DLY pending it ends with the line as it
was; with one of them it goes on to RECLAIM with the line disabled and the re-enabling still to do, and its one fixed mask
acknowledges IOC and DLY together. A pending error is logged and acknowledged in both cases. And the same with any steps of the
engines between the read and the rest, such as an E_DELAY or a writeback: a bit they raise does not change what is done; IOC
and DLY are both cleared where the read showed one of them, though the other rose since, and otherwise both stay; ERR is
cleared only where the read showed it. -/
def Obligations.IsrAcknowledgesWhatItRead : Prop :=
  (∀ (s : State) (c : Chan) (rest : List Item), AboutTo s (.isr (chanNum c)) rest → s.ctl = .ready → Inv s →
    s.rstBusy = false →
    ((s.eng.get c).sr.iocIrq = false → (s.eng.get c).sr.dlyIrq = false →
      ∃ n t, hostRun n s = .next t ∧ t.code = rest ∧ t.ret = .unit ∧ t.lines = s.lines ∧
        t.eng = s.eng.set c { s.eng.get c with sr := { (s.eng.get c).sr with errIrq := false } } ∧
        t.logs = (if (s.eng.get c).sr.errIrq then s.logs ++ ["DMA error"] else s.logs) ∧
        t.gie = s.gie ∧ t.sb = s.sb ∧ t.mem = s.mem ∧ t.cache = s.cache ∧ t.ch = s.ch ∧ t.cblog = s.cblog ∧
        SameRest s t) ∧
    (((s.eng.get c).sr.iocIrq = true ∨ (s.eng.get c).sr.dlyIrq = true) →
      ∃ n t, hostRun n s = .next t ∧
        t.code = .op (.reclaim (chanNum c)) :: ((if (s.lines.get c).en then [.op (.irqEnable (s.cfg.irq.get c))] else [])
          ++ .cont (.ret .unit) :: rest) ∧
        t.lines = s.lines.set c { s.lines.get c with en := false } ∧
        t.eng = s.eng.set c { s.eng.get c with
          sr := { (s.eng.get c).sr with iocIrq := false, dlyIrq := false, errIrq := false } } ∧
        t.logs = (if (s.eng.get c).sr.errIrq then s.logs ++ ["DMA error"] else s.logs) ∧
        t.gie = s.gie ∧ t.sb = s.sb ∧ t.mem = s.mem ∧ t.cache = s.cache ∧ t.ch = s.ch ∧ t.cblog = s.cblog ∧
        SameRest s t)) ∧
  ∀ (s : State) (c : Chan) (rest : List Item) (sr : Dmasr) (done : Bool), AboutTo s (.isr (chanNum c)) rest →
    s.ctl = .ready → Inv s → s.rstBusy = false → sr = (s.eng.get c).sr → done = (sr.iocIrq || sr.dlyIrq) →
    ∃ n p u, hostRun n s = .next p ∧ p.code.head? = some (.op (rdInstr c .dmasr)) ∧ p.eng = s.eng ∧
      stepAs .host p = .next u ∧
      ∀ (is : List Instr) (w : State), (∀ i ∈ is, (engineChan i).isSome = true) → autoRun is u = .next w →
        ∃ m t, hostRun m w = .next t ∧
          t.code = (if done then .op (.reclaim (chanNum c)) ::
              ((if (s.lines.get c).en then [.op (.irqEnable (s.cfg.irq.get c))] else []) ++ .cont (.ret .unit) :: rest)
            else rest) ∧
          t.lines = (if done then s.lines.set c { s.lines.get c with en := false } else s.lines) ∧
          t.eng = w.eng.set c { w.eng.get c with sr := { (w.eng.get c).sr with
            iocIrq := (w.eng.get c).sr.iocIrq && !done
            dlyIrq := (w.eng.get c).sr.dlyIrq && !done
            errIrq := (w.eng.get c).sr.errIrq && !sr.errIrq } } ∧
          t.logs = (if sr.errIrq then s.logs ++ ["DMA error"] else s.logs) ∧
          t.gie = s.gie ∧ t.sb = s.sb ∧ t.mem = w.mem ∧ t.cache = s.cache ∧ t.ch = s.ch ∧ t.cblog = s.cblog ∧
          SameRest w t

/-- R390, R351: INIT with the reset done before the first poll: the handlers are installed, both lines enabled, the device is
READY and both channels have their reset values (R80). -/
def Obligations.InitMakesTheDeviceReady : Prop :=
  ∀ (s : State) (rest : List Item), AboutTo s .init rest → s.ctl = .uninit → s.cfg.channels = 2 → s.rstBusy = false →
    ∃ t u n v, hostRun 2 s = .next t ∧ t.rstBusy = true ∧ stepAs (.auto 0xC600) t = .next u ∧ hostRun n u = .next v ∧
      v.code = rest ∧ v.ret = .code .ok ∧ v.ctl = .ready ∧ v.rstBusy = false ∧
      (∀ c, v.lines.get c = ⟨true, true⟩ ∧ (v.eng.get c).phase = .halted ∧
        (v.eng.get c).cr = ⟨false, false, false, false, 1, 0⟩ ∧
        (v.eng.get c).sr = ⟨false, false, false, false, false, false, false, false, false⟩ ∧
        (v.eng.get c).curdesc = 0 ∧ (v.eng.get c).taildesc = 0 ∧ (v.eng.get c).fp = 0 ∧ (v.eng.get c).cnt = 1 ∧
        (v.eng.get c).armed = false ∧ irqOut (v.eng.get c) = false ∧
        (v.ch.get c).ring = s.cfg.ring.get c ∧ (v.ch.get c).cap = s.cfg.cap.get c ∧
        (v.ch.get c).irq = s.cfg.irq.get c ∧ (v.ch.get c).configured = (s.ch.get c).configured) ∧
      v.mem = s.mem ∧ v.sb = s.sb ∧ v.gie = s.gie ∧ v.cfg = s.cfg ∧ v.cache = s.cache ∧ v.outs = s.outs ∧ v.cblog = s.cblog ∧
      v.logs = s.logs

/-- R390: INIT with no E_RESET_DONE fails with EIO after its bounded polls, for every bound: the device is FAILED, no handler
is installed and no line enabled. -/
def Obligations.InitFailsWhenTheResetHangs : Prop :=
  ∀ (s : State) (rest : List Item), AboutTo s .init rest → s.ctl = .uninit → s.cfg.channels = 2 → s.rstBusy = false →
    ∃ n t, hostRun n s = .next t ∧ t.code = rest ∧ t.ret = .code .eio ∧ t.ctl = .failed ∧ t.rstBusy = true ∧
      t.lines = s.lines ∧ t.mem = s.mem ∧ t.sb = s.sb ∧ t.gie = s.gie ∧ t.cfg = s.cfg ∧ t.cache = s.cache ∧ t.outs = s.outs ∧
      t.cblog = s.cblog ∧ t.logs = s.logs

/-- R365, R367, R300, R186: a quiet run of CONFIGURE in COHERENT mode with an empty block list, on a halted channel: the
cursors are reset, the ring is linked, CURDESC and FP name its first descriptor, the request's linked mode, callback and user
data are kept, the mask is restored and the result is OK. No byte of memory but the links changes.
ConfigurePopulatesTheBlocks says it of every block list, in every cache mode. -/
def Obligations.ConfigureOpensASession : Prop :=
  ∀ (s : State) (c : Chan) (q : CfgReq) (rest : List Item) (r : Record), AboutTo s (.configure (chanNum c) q) rest →
    s.ctl = .ready → Inv s → s.reclaiming c = false → q.srcAdj ≠ .decrement → q.dstAdj ≠ .decrement →
    q.direction = (s.ch.get c).dir → q.blocks = [] → linkedMode s.cfg c q.linked (s.ch.get c) = some r →
    s.cfg.cacheMode = .coherent → s.sb = [] → s.rstBusy = false → (s.eng.get c).phase = .halted →
    (∀ i, i < s.cfg.cap.get c → busResp s.cfg (descAddr s.cfg c i) 4 true = .okay ∧
      busResp s.cfg (descAddr s.cfg c i + 4) 4 true = .okay) →
    ∃ n t, quietRun n s = .next t ∧ t.code = rest ∧ t.ret = .code .ok ∧ t.sb = [] ∧
      t.ch = s.ch.set c { r with pop := s.cfg.cap.get c - 1, cmp := 0, configured := true, cb := q.cb, ud := q.ud } ∧
      t.eng = s.eng.set c { s.eng.get c with curdesc := s.cfg.ring.get c, fp := s.cfg.ring.get c } ∧
      (∀ i, i < s.cfg.cap.get c →
        t.mem.readWord (descAddr s.cfg c i + 4) ++ t.mem.readWord (descAddr s.cfg c i) =
          descAddr s.cfg c ((i + 1) % s.cfg.cap.get c)) ∧
      (∀ x, (∀ i, i < s.cfg.cap.get c →
        x < (descAddr s.cfg c i).toNat ∨ (descAddr s.cfg c i).toNat + 8 ≤ x) → t.mem.read x = s.mem.read x) ∧
      t.lines = s.lines ∧ t.gie = s.gie ∧ t.cblog = s.cblog ∧ t.logs = s.logs ∧ SameRest s t

/-! The engine sequencer (42_engine_sequencer.md). -/

/-- R253, R271, R281: E_HALT halts an idle or fetching channel with RS = 0; E_DELAY raises DLY_IRQ, restarts the countdown and
disarms the timer; E_RESET_DONE ends the reset. Each changes nothing else. -/
def Obligations.HaltDelayAndResetDone : Prop :=
  (∀ (s : State) (c : Chan), s.rstBusy = false → ((s.eng.get c).phase = .idle ∨ (s.eng.get c).phase = .fetch) →
    (s.eng.get c).cr.rs = false →
    exec (.eHalt c) s = .next (s.setEng c { s.eng.get c with phase := .halted })) ∧
  (∀ (s : State) (c : Chan), s.rstBusy = false → (s.eng.get c).armed = true → (s.eng.get c).cr.irqDelay ≠ 0 →
    exec (.eDelay c) s = .next (s.setEng c { s.eng.get c with
      sr := { (s.eng.get c).sr with dlyIrq := true }, cnt := (s.eng.get c).cr.irqThreshold, armed := false })) ∧
  ∀ s : State, s.rstBusy = true → exec .eResetDone s = .next { s with rstBusy := false }

/-- R255 to R257, R260, R422 c: E_FETCH puts FP in CURDESC first; then a bus error, a completed flag and a zero length are
found in that order; a fetch error sets its SG bit and ERR_IRQ, clears RS and halts, FP unchanged; a zero length goes to WB as
an internal error of no bytes; any other descriptor goes to XFER. The snapshot is memory's words, read at once. -/
def Obligations.FetchAcceptsOrReports : Prop :=
  (∀ (s : State) (c : Chan) (e : Eng) (sn : Snap), s.rstBusy = false → e = s.eng.get c → e.phase = .fetch →
    e.cr.rs = true → sn = fetchSnap s.mem e.fp →
    (busResp s.cfg e.fp 52 false = .decerr → exec (.eFetch c) s = .next (s.setEng c { e with
      curdesc := e.fp, sr := { e.sr with sgDecErr := true, errIrq := true }, cr := { e.cr with rs := false },
      phase := .halted })) ∧
    (busResp s.cfg e.fp 52 false = .slverr → exec (.eFetch c) s = .next (s.setEng c { e with
      curdesc := e.fp, sr := { e.sr with sgSlvErr := true, errIrq := true }, cr := { e.cr with rs := false },
      phase := .halted })) ∧
    (busResp s.cfg e.fp 52 false = .okay →
      (sn.status.getLsbD 31 = true → exec (.eFetch c) s = .next (s.setEng c { e with
        curdesc := e.fp, snap := sn, sr := { e.sr with sgIntErr := true, errIrq := true },
        cr := { e.cr with rs := false }, phase := .halted })) ∧
      (sn.status.getLsbD 31 = false → sn.control.extractLsb' 0 26 = 0 → ∃ eof sof,
        exec (.eFetch c) s = .next ((s.setEng c { e with
          curdesc := e.fp, snap := sn, xres := ⟨0, .interr, eof, sof, sn.app⟩, phase := .wb }).spend 2)) ∧
      (sn.status.getLsbD 31 = false → sn.control.extractLsb' 0 26 ≠ 0 →
        exec (.eFetch c) s = .next (s.setEng c { e with curdesc := e.fp, snap := sn, phase := .xfer })))) ∧
  ∀ (m : Memory) (a : Addr), (fetchSnap m a).addr = a ∧ (fetchSnap m a).nxtdesc = m.readWord a ∧
    (fetchSnap m a).nxtdescMsb = m.readWord (a + 0x04) ∧ (fetchSnap m a).buf = m.readWord (a + 0x08) ∧
    (fetchSnap m a).bufMsb = m.readWord (a + 0x0C) ∧ (fetchSnap m a).control = m.readWord (a + 0x18) ∧
    (fetchSnap m a).status = m.readWord (a + 0x1C) ∧
    (fetchSnap m a).app = ⟨m.readWord (a + 0x20), m.readWord (a + 0x24), m.readWord (a + 0x28), m.readWord (a + 0x2C),
      m.readWord (a + 0x30)⟩

/-- R258: E_XFER of TX appends the leg to OUTS with its flags and application words, or emits nothing and keeps the bus's
response; both go to WB. The rest of xres stays (log entry 17). -/
def Obligations.OutboundTransfer : Prop :=
  ∀ (s : State) (e : Eng) (buf : Addr) (len : BitVec 26), s.rstBusy = false → e = s.eng.tx → e.phase = .xfer →
    buf = e.snap.bufMsb ++ e.snap.buf → len = e.snap.control.extractLsb' 0 26 →
    (busResp s.cfg buf len.toNat false = .okay →
      exec .eXferTx s = .next { s with
        eng := s.eng.set .tx { e with xres := { e.xres with n := len, resp := .okay }, phase := .wb }
        outs := s.outs ++ [⟨s.mem.readBytes buf.toNat len.toNat, e.snap.control.getLsbD 27, e.snap.control.getLsbD 26,
          e.snap.app⟩] }) ∧
    (busResp s.cfg buf len.toNat false = .slverr →
      exec .eXferTx s = .next (s.setEng .tx { e with xres := { e.xres with n := 0, resp := .slverr }, phase := .wb })) ∧
    (busResp s.cfg buf len.toNat false = .decerr →
      exec .eXferTx s = .next (s.setEng .tx { e with xres := { e.xres with n := 0, resp := .decerr }, phase := .wb }))

/-- R259: every inbound leg the stream can deliver is the outcome of some draws, and no other is: n bytes up to the
descriptor's length, a short leg ending its frame, any frame flags, data and application words. The bytes go to the buffer if
the bus accepts them; otherwise memory is unchanged, the outcome keeps the bus's answer and no bytes, and again any count,
flags and application words are possible. -/
def Obligations.InboundLegsArePossible : Prop :=
  (∀ (s : State) (e : Eng), s.rstBusy = false → e = s.eng.rx → e.phase = .xfer →
    ∃ (n : Nat) (eof sof : Bool) (data : List Byte) (app : App),
      n ≤ (e.snap.control.extractLsb' 0 26).toNat ∧ (n < (e.snap.control.extractLsb' 0 26).toNat → eof = true) ∧
      data.length = n ∧
      ((n = 0 ∨ busResp s.cfg (e.snap.bufMsb ++ e.snap.buf) n true = .okay) →
        exec .eXferRx s = .next { s.spend 5 with
          mem := s.mem.writeBytes (e.snap.bufMsb ++ e.snap.buf).toNat data
          eng := s.eng.set .rx { e with xres := ⟨BitVec.ofNat 26 n, .okay, eof, sof, app⟩, phase := .wb } }) ∧
      (n ≠ 0 → busResp s.cfg (e.snap.bufMsb ++ e.snap.buf) n true = .slverr →
        exec .eXferRx s = .next { s.spend 5 with
          eng := s.eng.set .rx { e with xres := ⟨0, .slverr, eof, sof, app⟩, phase := .wb } }) ∧
      (n ≠ 0 → busResp s.cfg (e.snap.bufMsb ++ e.snap.buf) n true = .decerr →
        exec .eXferRx s = .next { s.spend 5 with
          eng := s.eng.set .rx { e with xres := ⟨0, .decerr, eof, sof, app⟩, phase := .wb } })) ∧
  (∀ (s : State) (e : Eng) (n : Nat) (eof sof : Bool) (data : List Byte) (app : App), s.rstBusy = false → e = s.eng.rx →
    e.phase = .xfer → n ≤ (e.snap.control.extractLsb' 0 26).toNat →
    (n < (e.snap.control.extractLsb' 0 26).toNat → eof = true) → data.length = n →
    (n = 0 ∨ busResp s.cfg (e.snap.bufMsb ++ e.snap.buf) n true = .okay) →
    ∃ ds, exec .eXferRx { s with draws := ds ++ s.draws } = .next { s with
      mem := s.mem.writeBytes (e.snap.bufMsb ++ e.snap.buf).toNat data
      eng := s.eng.set .rx { e with xres := ⟨BitVec.ofNat 26 n, .okay, eof, sof, app⟩, phase := .wb } }) ∧
  ∀ (s : State) (e : Eng) (n : Nat) (eof sof : Bool) (app : App), s.rstBusy = false → e = s.eng.rx → e.phase = .xfer →
    n ≠ 0 → n ≤ (e.snap.control.extractLsb' 0 26).toNat → (n < (e.snap.control.extractLsb' 0 26).toNat → eof = true) →
    (busResp s.cfg (e.snap.bufMsb ++ e.snap.buf) n true = .slverr →
      ∃ ds, exec .eXferRx { s with draws := ds ++ s.draws } = .next { s with
        eng := s.eng.set .rx { e with xres := ⟨0, .slverr, eof, sof, app⟩, phase := .wb } }) ∧
    (busResp s.cfg (e.snap.bufMsb ++ e.snap.buf) n true = .decerr →
      ∃ ds, exec .eXferRx { s with draws := ds ++ s.draws } = .next { s with
        eng := s.eng.set .rx { e with xres := ⟨0, .decerr, eof, sof, app⟩, phase := .wb } })

/-- R260 to R262, R401, R105: E_WB writes STATUS, and on RX the application words, where the bus accepts the whole span and
then each of the two writes. A refusal is reported as an SG error with FP unchanged; nothing is written, except that STATUS stays
written where the bus accepts it and then refuses the application words (log entry 36). A written descriptor moves FP to its
next pointer and counts as a completion; a transfer error then halts with ERR_IRQ, and success goes on by RS and by whether
the tail is done. A misaligned next pointer stops the machine. -/
def Obligations.WritebackCompletes : Prop :=
  ∀ (s : State) (c : Chan) (e : Eng) (a nx : Addr) (app : List Byte) (w w4 w20 b : BusResp) (m1 m2 m : Memory) (ev : Eng),
    s.rstBusy = false → e = s.eng.get c → e.phase = .wb → a = e.snap.addr + 0x1C →
    nx = e.snap.nxtdescMsb ++ e.snap.nxtdesc →
    app = wordBytes e.xres.app.app0 ++ wordBytes e.xres.app.app1 ++ wordBytes e.xres.app.app2 ++
      wordBytes e.xres.app.app3 ++ wordBytes e.xres.app.app4 →
    w = busResp s.cfg a (if c = .rx then 24 else 4) true → w4 = busResp s.cfg a 4 true →
    w20 = (if c = .rx then busResp s.cfg (e.snap.addr + 0x20) 20 true else .okay) →
    b = (if w ≠ .okay then w else if w4 ≠ .okay then w4 else w20) →
    m1 = s.mem.writeBytes a.toNat (wordBytes (statusWord c e.xres)) →
    m2 = (if c = .rx then m1.writeBytes (e.snap.addr + 0x20).toNat app else m1) →
    m = (if w ≠ .okay ∨ w4 ≠ .okay then s.mem else if w20 ≠ .okay then m1 else m2) →
    ev = completionEvent { e with fp := nx } →
    (b = .decerr → exec (.eWb c) s = .next ((s.setMem m).setEng c { e with
      sr := { e.sr with sgDecErr := true, errIrq := true }, cr := { e.cr with rs := false }, phase := .halted })) ∧
    (b = .slverr → exec (.eWb c) s = .next ((s.setMem m).setEng c { e with
      sr := { e.sr with sgSlvErr := true, errIrq := true }, cr := { e.cr with rs := false }, phase := .halted })) ∧
    (b = .okay →
      (nx.extractLsb' 0 6 ≠ 0 → exec (.eWb c) s = .fault (.misalignedDescriptorPointer c nx)) ∧
      (nx.extractLsb' 0 6 = 0 → e.xres.resp = .okay →
        exec (.eWb c) s = .next ((s.setMem m).setEng c { ev with
          phase := if e.cr.rs = false then .halted else if e.curdesc = e.taildesc then .idle else .fetch })) ∧
      (nx.extractLsb' 0 6 = 0 → e.xres.resp ≠ .okay →
        exec (.eWb c) s = .next ((s.setMem m).setEng c { ev with
          sr := { ev.sr with
            dmaDecErr := e.sr.dmaDecErr || e.xres.resp == .decerr
            dmaSlvErr := e.sr.dmaSlvErr || e.xres.resp == .slverr
            dmaIntErr := e.sr.dmaIntErr || e.xres.resp == .interr
            errIrq := true }
          cr := { e.cr with rs := false }
          phase := .halted })))

/-- R161, R162, R47, R70, R270: the bits of CONTROL as Populate writes it and of STATUS as E_WB writes it, the interrupt
output, the completion countdown, and the three states of a descriptor, exactly one of which holds. -/
def Obligations.DescriptorWordsAndFlags : Prop :=
  (∀ (len : Word) (f l : Bool), (controlWord len f l).extractLsb' 0 26 = len.extractLsb' 0 26 ∧
    (controlWord len f l).getLsbD 26 = l ∧ (controlWord len f l).getLsbD 27 = f ∧
    (controlWord len f l).extractLsb' 28 4 = 0) ∧
  (∀ (c : Chan) (x : XRes), (statusWord c x).extractLsb' 0 26 = x.n ∧ (statusWord c x).getLsbD 31 = true ∧
    (statusWord c x).getLsbD 30 = (x.resp == .decerr) ∧ (statusWord c x).getLsbD 29 = (x.resp == .slverr) ∧
    (statusWord c x).getLsbD 28 = (x.resp == .interr) ∧ (statusWord c x).getLsbD 27 = (c == .rx && x.rxSof) ∧
    (statusWord c x).getLsbD 26 = (c == .rx && x.rxEof)) ∧
  (∀ e : Eng, irqOut e = true ↔ (e.sr.iocIrq = true ∧ e.cr.iocIrqEn = true) ∨ (e.sr.dlyIrq = true ∧ e.cr.dlyIrqEn = true) ∨
    (e.sr.errIrq = true ∧ e.cr.errIrqEn = true)) ∧
  (∀ e : Eng, (e.cnt = 1 → completionEvent e = { e with
      sr := { e.sr with iocIrq := true }, cnt := e.cr.irqThreshold, armed := false }) ∧
    (e.cnt ≠ 1 → completionEvent e = { e with cnt := e.cnt - 1, armed := true })) ∧
  ∀ ctl sts : Word, (descState ctl sts = .free ↔ ctl = 0 ∧ sts = 0) ∧
    (descState ctl sts = .finished ↔ sts.extractLsb' 26 6 ≠ 0) ∧
    (descState ctl sts = .pending ↔ ¬ (ctl = 0 ∧ sts = 0) ∧ sts.extractLsb' 26 6 = 0)

/-- An autonomous step that is not enabled changes nothing when it is offered (log entry 3); while a soft reset is in progress
no step of an engine is enabled (R251). -/
def Obligations.DisabledStepsChangeNothing : Prop :=
  (∀ (s : State) (i : Instr) (c : Chan), engineChan i = some c → s.rstBusy = true → exec i s = .next s) ∧
  (∀ (s : State) (c : Chan),
    (¬ ((s.eng.get c).phase = .idle ∨ (s.eng.get c).phase = .fetch) ∨ (s.eng.get c).cr.rs = true →
      exec (.eHalt c) s = .next s) ∧
    ((s.eng.get c).phase ≠ .fetch ∨ (s.eng.get c).cr.rs = false → exec (.eFetch c) s = .next s) ∧
    ((s.eng.get c).phase ≠ .wb → exec (.eWb c) s = .next s) ∧
    ((s.eng.get c).armed = false ∨ (s.eng.get c).cr.irqDelay = 0 → exec (.eDelay c) s = .next s)) ∧
  (∀ s : State, (s.eng.tx.phase ≠ .xfer → exec .eXferTx s = .next s) ∧
    (s.eng.rx.phase ≠ .xfer → exec .eXferRx s = .next s) ∧ (s.rstBusy = false → exec .eResetDone s = .next s) ∧
    (s.sb = [] → exec .envDrain s = .next s) ∧ (s.cfg.cacheMode = .coherent → exec .envFill s = .next s) ∧
    (s.cfg.cacheMode = .coherent → exec .envEvict s = .next s) ∧ (s.cache = [] → exec .envEvict s = .next s))

/-! The environment and interrupts (20_memory.md R124; 60_exceptions.md R425, R426). -/

/-- R124, R125: any cached line outside a host-uncached ring can be evicted: its bytes go to memory if it is dirty, and it
leaves the cache. The line of any cacheable address that is not cached can be filled: it joins the cache clean, with memory's
bytes. -/
def Obligations.EvictAndFill : Prop :=
  (∀ (s : State) (l : CacheLine), s.cfg.cacheMode = .noncoherent → l ∈ s.cache → uncachedRing s.cfg l.base = false →
    ∃ d, exec .envEvict { s with draws := d :: s.draws } = .next { s with
      mem := if l.dirty then s.mem.writeBytes l.base l.bytes else s.mem
      cache := s.cache.filter fun k => k.base != l.base }) ∧
  ∀ (s : State) (x : Nat), s.cfg.cacheMode = .noncoherent → x < 2 ^ 64 → uncachedRing s.cfg x = false →
    (∀ l ∈ s.cache, l.base ≠ x / s.cfg.line * s.cfg.line) →
    ∃ ls, exec .envFill { s with draws := x :: s.draws } = .next { s with cache := ls } ∧
      ∀ l, l ∈ ls ↔ l ∈ s.cache ∨
        l = ⟨x / s.cfg.line * s.cfg.line, s.mem.readBytes (x / s.cfg.line * s.cfg.line) s.cfg.line, false⟩

/-- R425: IRQ_TAKE is taken exactly when the channel's output is asserted, its line enabled with its handler installed, gie
set, no context active for the line, and nesting allowed or no context active; it then pushes a context at the start of ISR(c),
and changes nothing else. That it changes nothing where it is offered and not enabled is the model's choice (log entry 3). -/
def Obligations.InterruptEntry : Prop :=
  ∀ (s : State) (c : Chan), paramsValid s.cfg = true → (s.ch.get c).irq = s.cfg.irq.get c →
    (irqOut (s.eng.get c) = true ∧ (s.lines.get c).en = true ∧ (s.lines.get c).inst = true ∧ s.gie = true ∧
      (∀ i ∈ s.irqs, i.line ≠ s.cfg.irq.get c) ∧ (s.cfg.nestedIrq = true ∨ s.irqs = []) →
      exec (.irqTake c) s = .next { s with
        irqs := ⟨c, s.cfg.irq.get c, ⟨[.op (.isr (chanNum c))], [], .unit⟩⟩ :: s.irqs }) ∧
    (¬ (irqOut (s.eng.get c) = true ∧ (s.lines.get c).en = true ∧ (s.lines.get c).inst = true ∧ s.gie = true ∧
      (∀ i ∈ s.irqs, i.line ≠ s.cfg.irq.get c) ∧ (s.cfg.nestedIrq = true ∨ s.irqs = [])) →
      exec (.irqTake c) s = .next s)

/-- R426: the last step of ISR pops its context, and the interrupted context resumes where it was; nothing else changes. A
context that has something left stays (log entries 25 and 39 for the moment of the pop). -/
def Obligations.InterruptReturn : Prop :=
  (∀ (s : State) (i : IrqCtx) (is : List IrqCtx) (v : Value), paramsValid s.cfg = true → s.irqs = i :: is →
    i.ctx.code = [.cont (.ret v)] → stepAs .host s = .next { s with irqs := is }) ∧
  ∀ (s t : State) (i : IrqCtx) (is : List IrqCtx) (it it2 : Item) (rest : List Item), s.irqs = i :: is →
    i.ctx.code = it :: it2 :: rest → stepAs .host s = .next t →
    ∃ x, t.irqs = ⟨i.chan, i.line, x⟩ :: is

/-! The whole machine. -/

/-- Every step keeps the invariant: memory in canonical form (R104), aligned descriptor pointers (R44, R45, R58), legal
threshold and countdown (R42, R53), both channels quiet during a soft reset (R251), wired records with pop and cmp in the ring
(R63), no index outside its ring in a procedure in progress (R13), one interrupt context at most per line (R61, R427),
aligned pending stores (R112) and a cache of whole aligned lines (R124). -/
def Obligations.EveryStepKeepsTheInvariant : Prop :=
  ∀ s t : State, Inv s → step s = .next t → Inv t

/-- The invariant holds right after reset, and at boot with any parameters the platform may have (R450, R10). It rests on model
choices too: the parameters of State.reset (log entry 5), and at boot the records' irq (log entry 9) and cursors (log entry
10). -/
def Obligations.BootSatisfiesTheInvariant : Prop :=
  Inv State.reset ∧ ∀ p : Params, paramsValid p = true → Inv (State.boot p)

/-- Physical memory changes only by the inbound transfer, a writeback, a drain, an eviction or a flush; no other operation
changes a byte (R104, R105, R120). -/
def Obligations.OnlyTheseChangeMemory : Prop :=
  ∀ (i : Instr) (s t : State) (x : Nat), exec i s = .next t → t.mem.read x ≠ s.mem.read x →
    i = .eXferRx ∨ (∃ c, i = .eWb c) ∨ i = .envDrain ∨ i = .envEvict ∨ ∃ a n, i = .dcFlush a n

/-- R251: a step of one engine reads and writes nothing of the other engine, of the store buffer or of the cache. -/
def Obligations.EnginesAreIndependent : Prop :=
  ∀ (i : Instr) (c : Chan) (s : State) (e : Eng) (b : List SbEntry) (ls : List CacheLine), engineChan i = some c →
    exec i (s.setEng (otherChan c) e) = mapNext (fun t => t.setEng (otherChan c) e) (exec i s) ∧
    exec i { s with sb := b, cache := ls } = mapNext (fun t => { t with sb := b, cache := ls }) (exec i s) ∧
    ∀ t, exec i s = .next t → t.eng.get (otherChan c) = s.eng.get (otherChan c) ∧ t.sb = s.sb ∧ t.cache = s.cache

/-- R250: an operation that changes the phase of a channel is one of the rows of the transition table. -/
def Obligations.PhaseTransitionsAreTheTable : Prop :=
  ∀ (i : Instr) (s t : State) (c : Chan) (p q : Phase), exec i s = .next t → p = (s.eng.get c).phase →
    q = (t.eng.get c).phase → p ≠ q →
    (p = .halted ∧ q = .idle ∧ ∃ v, i = wrInstr c .dmacr v ∧ v.getLsbD 0 = true) ∨
    (p = .idle ∧ q = .fetch ∧ ∃ v, i = wrInstr c .taildescLsb v) ∨
    ((p = .idle ∨ p = .fetch) ∧ q = .halted ∧ i = .eHalt c ∧ (s.eng.get c).cr.rs = false) ∨
    (p = .fetch ∧ (q = .xfer ∨ q = .wb ∨ q = .halted) ∧ i = .eFetch c ∧ (s.eng.get c).cr.rs = true) ∨
    (p = .xfer ∧ q = .wb ∧ ((c = .tx ∧ i = .eXferTx) ∨ (c = .rx ∧ i = .eXferRx))) ∨
    (p = .wb ∧ i = .eWb c ∧ (q = .halted ∨
      (q = .idle ∧ (s.eng.get c).cr.rs = true ∧ (s.eng.get c).curdesc = (s.eng.get c).taildesc) ∨
      (q = .fetch ∧ (s.eng.get c).cr.rs = true ∧ (s.eng.get c).curdesc ≠ (s.eng.get c).taildesc))) ∨
    (q = .halted ∧ asksReset i = true)

/-- R55, R60, R64, R65, R106, R421: which operations write the host's state, the reset flag and the logs. That of them INIT alone
writes the driver's records, and none installs a handler, is so because a procedure's own updates of them (R301, R302, R365,
R390) are program points, steps beside exec (log entry 12). -/
def Obligations.WhoWritesWhat : Prop :=
  ∀ (i : Instr) (s t : State), exec i s = .next t →
    (t.cfg = s.cfg) ∧
    (t.gie ≠ s.gie → (∃ c, i = .csEnter c) ∨ ∃ k, i = .csExit k) ∧
    (t.lines ≠ s.lines → (∃ l, i = .irqEnable l) ∨ (∃ l, i = .irqDisable l) ∨ (∃ c, i = .csEnter c) ∨ ∃ k, i = .csExit k) ∧
    (t.sb ≠ s.sb → (∃ a v, i = .st32 a v) ∨ i = .envDrain) ∧
    (t.ctl ≠ s.ctl → i = .init) ∧ (t.ch ≠ s.ch → i = .init) ∧
    (t.cblog ≠ s.cblog → ∃ c r, i = .callback c r) ∧ (t.outs ≠ s.outs → i = .eXferTx) ∧
    (t.logs ≠ s.logs → ∃ m, i = .log m) ∧
    (t.rstBusy ≠ s.rstBusy → asksReset i = true ∨ i = .eResetDone)

/-- R43, R54, R75: no operation clears an error bit of DMASR but a soft reset. -/
def Obligations.ErrorBitsAreSticky : Prop :=
  ∀ (i : Instr) (s t : State) (c : Chan), exec i s = .next t → asksReset i = false →
    ((s.eng.get c).sr.dmaIntErr = true → (t.eng.get c).sr.dmaIntErr = true) ∧
    ((s.eng.get c).sr.dmaSlvErr = true → (t.eng.get c).sr.dmaSlvErr = true) ∧
    ((s.eng.get c).sr.dmaDecErr = true → (t.eng.get c).sr.dmaDecErr = true) ∧
    ((s.eng.get c).sr.sgIntErr = true → (t.eng.get c).sr.sgIntErr = true) ∧
    ((s.eng.get c).sr.sgSlvErr = true → (t.eng.get c).sr.sgSlvErr = true) ∧
    ((s.eng.get c).sr.sgDecErr = true → (t.eng.get c).sr.sgDecErr = true)

/-- R281, R480: on every fair run a soft reset in progress ends. -/
def Obligations.FairRunsEndTheReset : Prop :=
  ∀ r : Nat → State, IsRun r → Fair r → ∀ n, (r n).rstBusy = true → ∃ m, n ≤ m ∧ (r m).rstBusy = false

/-! Driver procedures over whole lists, in every cache mode (43_ring.md, 46_configure.md). -/

/-- R302, R306, R307, R405, R125: a quiet run of RECLAIM over a ring whose first m descriptors from cmp the host sees finished,
and the next one unfinished or m the whole ring, for every m and capacity. It returns m and calls back once per descriptor in
ring order, if there is a callback, with RES_FAULT exactly where STATUS has an error bit or the inspected checksum word a
masked bit. Each descriptor's CONTROL and STATUS are 0 in memory and as the host loads them, and no byte of memory outside the
reclaimed descriptors changes, in COHERENT mode or an uncached ring no byte but those words. On RX the lines of each received
buffer leave the cache, so that the host sees memory's bytes there, and the last received length is kept; cmp moves on by m.
The bodies of the callbacks are empty, and in NONCOHERENT mode no received byte lies in the ring. -/
def Obligations.ReclaimReturnsEveryFinishedDescriptor : Prop :=
  ∀ (s : State) (c : Chan) (rest : List Item) (m : Nat) (d buf : Nat → Addr) (sts : Nat → Word) (fault : Nat → Bool)
    (bs : List (List Instr)),
    AboutTo s (.reclaim (chanNum c)) rest → s.ctl = .ready → (s.ch.get c).configured = true → Inv s → s.sb = [] →
    m ≤ s.cfg.cap.get c →
    (∀ j, d j = descAddr s.cfg c (((s.ch.get c).cmp + j) % s.cfg.cap.get c) ∧ sts j = s.loadWord (d j + 0x1C) ∧
      buf j = s.loadWord (d j + 0x0C) ++ s.loadWord (d j + 0x08) ∧
      fault j = (decide ((sts j).extractLsb' 28 3 ≠ 0) || ((s.ch.get c).csumChk &&
        decide (s.loadWord (d j + BitVec.ofNat 64 (0x20 + 4 * s.cfg.csumWord)) &&&
          (s.cfg.fcsErr ||| s.cfg.ipErr ||| s.cfg.udpErr ||| s.cfg.tcpErr) ≠ 0)))) →
    (∀ j, j < m → (sts j).extractLsb' 26 6 ≠ 0 ∧
      (∀ k w, k < 16 → busResp s.cfg (d j + BitVec.ofNat 64 (4 * k)) 4 w = .okay) ∧
      (c = .rx → s.cfg.cacheMode = .noncoherent → ∀ k, k < ((sts j).extractLsb' 0 26).toNat →
        inRingOf s.cfg c (((buf j).toNat + k) % 2 ^ 64) = false)) →
    (m < s.cfg.cap.get c → (sts m).extractLsb' 26 6 = 0 ∧ busResp s.cfg (d m + 0x1C) 4 false = .okay) →
    ((s.ch.get c).cb = none ∨ s.bodies = List.replicate m [] ++ bs) →
    ∃ n t, quietRun n s = .next t ∧ t.code = rest ∧ t.ret = .count m ∧ t.sb = [] ∧
      t.cblog = (if (s.ch.get c).cb = none then s.cblog
        else s.cblog ++ (List.range m).map fun j => ⟨c, (s.ch.get c).ud, if fault j then .fault else .ok⟩) ∧
      (∀ j, j < m → t.mem.readWord (d j + 0x18) = 0 ∧ t.mem.readWord (d j + 0x1C) = 0 ∧ SlotFree t (d j)) ∧
      (∀ x, (∀ j, j < m → ¬ InSpan (d j).toNat 64 x) → t.mem.read x = s.mem.read x) ∧
      (∀ x, (∀ j, j < m → ¬ InSpan ((d j).toNat + 0x18) 8 x) →
        (s.cfg.cacheMode = .coherent ∨ s.cfg.descUncached = true → t.mem.read x = s.mem.read x) ∧
        (c = .rx → (∃ j, j < m ∧ Invalidated s.cfg (buf j) ((sts j).extractLsb' 0 26).toNat x) →
          t.hostByte x = s.mem.read x) ∧
        (¬ (c = .rx ∧ ∃ j, j < m ∧ Invalidated s.cfg (buf j) ((sts j).extractLsb' 0 26).toNat x) →
          t.hostByte x = s.hostByte x)) ∧
      (∀ l, inRingOf s.cfg c l.base = false → (l ∈ t.cache ↔ l ∈ s.cache ∧
        ¬ (c = .rx ∧ uncachedRing s.cfg l.base = false ∧
          ∃ j, j < m ∧ LineMeets s.cfg l (buf j).toNat ((sts j).extractLsb' 0 26).toNat))) ∧
      t.ch = s.ch.set c { s.ch.get c with
        cmp := ((s.ch.get c).cmp + m) % s.cfg.cap.get c
        lastRx := if c = .rx ∧ m ≠ 0 then (sts (m - 1)).extractLsb' 0 26 else (s.ch.get c).lastRx } ∧
      t.eng = s.eng ∧ SameAround s t

/-- R365, R367, R300, R301, R186: a quiet run of CONFIGURE on a halted channel, with any block list. The ring is linked, CURDESC
and FP name its first descriptor, and the linked mode, callback and user data of the request are kept. Then the first k blocks
are populated in order on slots 0 to k - 1 (the memory-side address; first on the first block, last on the last), where each of
them fits and its slot is seen free; the walk ends with the list, and OK, or at the first block that does not go: EBUSY where
its slot is not free or the ring is full, EINVAL where it does not fit. The cursors, memory, the host's view and the cache are
what the linking and the k Populates leave, in every cache mode. In NONCOHERENT mode no byte of a populated RX buffer lies in
the ring. -/
def Obligations.ConfigurePopulatesTheBlocks : Prop :=
  ∀ (s : State) (c : Chan) (q : CfgReq) (rest : List Item) (r : Record) (d buf : Nat → Addr) (k : Nat) (res : Code),
    AboutTo s (.configure (chanNum c) q) rest → s.ctl = .ready → Inv s → s.reclaiming c = false →
    q.srcAdj ≠ .decrement → q.dstAdj ≠ .decrement → q.direction = (s.ch.get c).dir →
    linkedMode s.cfg c q.linked (s.ch.get c) = some r → s.sb = [] → s.rstBusy = false → (s.eng.get c).phase = .halted →
    (∀ i, d i = descAddr s.cfg c i) →
    (∀ (j : Nat) (b : Block), q.blocks[j]? = some b → buf j = if c = .tx then b.src else b.dst) →
    (∀ i j w, i < s.cfg.cap.get c → j < 16 → busResp s.cfg (d i + BitVec.ofNat 64 (4 * j)) 4 w = .okay) →
    k ≤ s.cfg.cap.get c → k ≤ q.blocks.length →
    (∀ (j : Nat) (b : Block), j < k → q.blocks[j]? = some b → SlotFree s (d j) ∧ BlockFits s.cfg c (buf j) b.size ∧
      (c = .rx → s.cfg.cacheMode = .noncoherent → ∀ i, i < b.size.toNat →
        inRingOf s.cfg c (((buf j).toNat + i) % 2 ^ 64) = false)) →
    ((k = q.blocks.length ∧ res = .ok) ∨ ∃ b, q.blocks[k]? = some b ∧
      ((res = .ebusy ∧ (k = s.cfg.cap.get c ∨ ¬ SlotFree s (d k))) ∨
       (res = .einval ∧ k < s.cfg.cap.get c ∧ SlotFree s (d k) ∧ ¬ BlockFits s.cfg c (buf k) b.size))) →
    ∃ n t, quietRun n s = .next t ∧ t.code = rest ∧ t.ret = .code res ∧ t.sb = [] ∧
      t.ch = s.ch.set c { r with
        pop := if k = 0 then s.cfg.cap.get c - 1 else k - 1, cmp := 0, configured := true, cb := q.cb, ud := q.ud } ∧
      t.eng = s.eng.set c { s.eng.get c with curdesc := s.cfg.ring.get c, fp := s.cfg.ring.get c } ∧
      LinksClose s.cfg c t.mem.readWord ∧ LinksClose s.cfg c t.loadWord ∧
      (∀ (j : Nat) (b : Block), j < k → q.blocks[j]? = some b →
        HoldsBlock t.mem.readWord (d j) (buf j) r.app0 (controlWord b.size (j == 0) (j + 1 == q.blocks.length)) ∧
        HoldsBlock t.loadWord (d j) (buf j) r.app0 (controlWord b.size (j == 0) (j + 1 == q.blocks.length))) ∧
      (∀ x, inRingOf s.cfg c x = false → t.mem.read x = s.mem.read x) ∧
      (∀ x, ¬ LinkByte s.cfg c x → (∀ j, j < k → ¬ PopulatedByte (d j) x) →
        (s.cfg.cacheMode = .coherent ∨ s.cfg.descUncached = true → t.mem.read x = s.mem.read x) ∧
        (c = .rx → (∃ (j : Nat) (b : Block), j < k ∧ q.blocks[j]? = some b ∧ Invalidated s.cfg (buf j) b.size.toNat x) →
          t.hostByte x = s.mem.read x) ∧
        (¬ (c = .rx ∧ ∃ (j : Nat) (b : Block), j < k ∧ q.blocks[j]? = some b ∧
            Invalidated s.cfg (buf j) b.size.toNat x) → t.hostByte x = s.hostByte x)) ∧
      (∀ l, inRingOf s.cfg c l.base = false → (l ∈ t.cache ↔ l ∈ s.cache ∧
        ¬ (c = .rx ∧ uncachedRing s.cfg l.base = false ∧
          ∃ (j : Nat) (b : Block), j < k ∧ q.blocks[j]? = some b ∧ LineMeets s.cfg l (buf j).toNat b.size.toNat))) ∧
      t.cblog = s.cblog ∧ SameAround s t
end

