-- ==== Sys2Proof/Laws/State.lean ====
section
/-! SUPPORT. What each update of State does to each field, one lemma per field per update. -/

namespace Sys2Proof

variable {α : Type}

@[simp] theorem Pair.get_tx (p : Pair α) : p.get .tx = p.tx := rfl
@[simp] theorem Pair.get_rx (p : Pair α) : p.get .rx = p.rx := rfl
@[simp] theorem Pair.set_tx_tx (p : Pair α) (v : α) : (p.set .tx v).tx = v := rfl
@[simp] theorem Pair.set_tx_rx (p : Pair α) (v : α) : (p.set .tx v).rx = p.rx := rfl
@[simp] theorem Pair.set_rx_tx (p : Pair α) (v : α) : (p.set .rx v).tx = p.tx := rfl
@[simp] theorem Pair.set_rx_rx (p : Pair α) (v : α) : (p.set .rx v).rx = v := rfl

@[simp] theorem Pair.get_set_self (p : Pair α) (c : Chan) (v : α) : (p.set c v).get c = v := by cases c <;> rfl

/-- A channel's value after the other channel's is set. -/
theorem Pair.get_set_other (p : Pair α) {c d : Chan} (v : α) (h : d ≠ c) : (p.set c v).get d = p.get d := by
  cases c <;> cases d <;> first | rfl | exact absurd rfl h

@[simp] theorem Pair.set_get (p : Pair α) (c : Chan) : p.set c (p.get c) = p := by cases c <;> rfl

@[simp] theorem Pair.set_set (p : Pair α) (c : Chan) (v w : α) : (p.set c v).set c w = p.set c w := by cases c <;> rfl

end Sys2Proof

namespace Sys2Proof.Machine

variable (s : State)

/-! State.setRunning -/

@[simp] theorem State.setRunning_cfg (x : Ctx) : (s.setRunning x).cfg = s.cfg := rfl
@[simp] theorem State.setRunning_eng (x : Ctx) : (s.setRunning x).eng = s.eng := rfl
@[simp] theorem State.setRunning_rstBusy (x : Ctx) : (s.setRunning x).rstBusy = s.rstBusy := rfl
@[simp] theorem State.setRunning_gie (x : Ctx) : (s.setRunning x).gie = s.gie := rfl
@[simp] theorem State.setRunning_lines (x : Ctx) : (s.setRunning x).lines = s.lines := rfl
@[simp] theorem State.setRunning_thread (x : Ctx) : (s.setRunning x).thread = threadWith s.irqs s.thread x := rfl
@[simp] theorem State.setRunning_irqs (x : Ctx) : (s.setRunning x).irqs = irqsWith s.irqs x := rfl
@[simp] theorem State.setRunning_sb (x : Ctx) : (s.setRunning x).sb = s.sb := rfl
@[simp] theorem State.setRunning_cache (x : Ctx) : (s.setRunning x).cache = s.cache := rfl
@[simp] theorem State.setRunning_ch (x : Ctx) : (s.setRunning x).ch = s.ch := rfl
@[simp] theorem State.setRunning_ctl (x : Ctx) : (s.setRunning x).ctl = s.ctl := rfl
@[simp] theorem State.setRunning_cblog (x : Ctx) : (s.setRunning x).cblog = s.cblog := rfl
@[simp] theorem State.setRunning_outs (x : Ctx) : (s.setRunning x).outs = s.outs := rfl
@[simp] theorem State.setRunning_logs (x : Ctx) : (s.setRunning x).logs = s.logs := rfl
@[simp] theorem State.setRunning_mem (x : Ctx) : (s.setRunning x).mem = s.mem := rfl
@[simp] theorem State.setRunning_turns (x : Ctx) : (s.setRunning x).turns = s.turns := rfl
@[simp] theorem State.setRunning_turnNo (x : Ctx) : (s.setRunning x).turnNo = s.turnNo := rfl
@[simp] theorem State.setRunning_draws (x : Ctx) : (s.setRunning x).draws = s.draws := rfl
@[simp] theorem State.setRunning_drawNo (x : Ctx) : (s.setRunning x).drawNo = s.drawNo := rfl
@[simp] theorem State.setRunning_bodies (x : Ctx) : (s.setRunning x).bodies = s.bodies := rfl
@[simp] theorem State.setRunning_bodyNo (x : Ctx) : (s.setRunning x).bodyNo = s.bodyNo := rfl

/-! State.setCode -/

@[simp] theorem State.setCode_cfg (is : List Item) : (s.setCode is).cfg = s.cfg := rfl
@[simp] theorem State.setCode_eng (is : List Item) : (s.setCode is).eng = s.eng := rfl
@[simp] theorem State.setCode_rstBusy (is : List Item) : (s.setCode is).rstBusy = s.rstBusy := rfl
@[simp] theorem State.setCode_gie (is : List Item) : (s.setCode is).gie = s.gie := rfl
@[simp] theorem State.setCode_lines (is : List Item) : (s.setCode is).lines = s.lines := rfl
@[simp] theorem State.setCode_sb (is : List Item) : (s.setCode is).sb = s.sb := rfl
@[simp] theorem State.setCode_cache (is : List Item) : (s.setCode is).cache = s.cache := rfl
@[simp] theorem State.setCode_ch (is : List Item) : (s.setCode is).ch = s.ch := rfl
@[simp] theorem State.setCode_ctl (is : List Item) : (s.setCode is).ctl = s.ctl := rfl
@[simp] theorem State.setCode_cblog (is : List Item) : (s.setCode is).cblog = s.cblog := rfl
@[simp] theorem State.setCode_outs (is : List Item) : (s.setCode is).outs = s.outs := rfl
@[simp] theorem State.setCode_logs (is : List Item) : (s.setCode is).logs = s.logs := rfl
@[simp] theorem State.setCode_mem (is : List Item) : (s.setCode is).mem = s.mem := rfl
@[simp] theorem State.setCode_turns (is : List Item) : (s.setCode is).turns = s.turns := rfl
@[simp] theorem State.setCode_turnNo (is : List Item) : (s.setCode is).turnNo = s.turnNo := rfl
@[simp] theorem State.setCode_draws (is : List Item) : (s.setCode is).draws = s.draws := rfl
@[simp] theorem State.setCode_drawNo (is : List Item) : (s.setCode is).drawNo = s.drawNo := rfl
@[simp] theorem State.setCode_bodies (is : List Item) : (s.setCode is).bodies = s.bodies := rfl
@[simp] theorem State.setCode_bodyNo (is : List Item) : (s.setCode is).bodyNo = s.bodyNo := rfl

/-! State.push -/

@[simp] theorem State.push_cfg (is : List Item) : (s.push is).cfg = s.cfg := rfl
@[simp] theorem State.push_eng (is : List Item) : (s.push is).eng = s.eng := rfl
@[simp] theorem State.push_rstBusy (is : List Item) : (s.push is).rstBusy = s.rstBusy := rfl
@[simp] theorem State.push_gie (is : List Item) : (s.push is).gie = s.gie := rfl
@[simp] theorem State.push_lines (is : List Item) : (s.push is).lines = s.lines := rfl
@[simp] theorem State.push_sb (is : List Item) : (s.push is).sb = s.sb := rfl
@[simp] theorem State.push_cache (is : List Item) : (s.push is).cache = s.cache := rfl
@[simp] theorem State.push_ch (is : List Item) : (s.push is).ch = s.ch := rfl
@[simp] theorem State.push_ctl (is : List Item) : (s.push is).ctl = s.ctl := rfl
@[simp] theorem State.push_cblog (is : List Item) : (s.push is).cblog = s.cblog := rfl
@[simp] theorem State.push_outs (is : List Item) : (s.push is).outs = s.outs := rfl
@[simp] theorem State.push_logs (is : List Item) : (s.push is).logs = s.logs := rfl
@[simp] theorem State.push_mem (is : List Item) : (s.push is).mem = s.mem := rfl
@[simp] theorem State.push_turns (is : List Item) : (s.push is).turns = s.turns := rfl
@[simp] theorem State.push_turnNo (is : List Item) : (s.push is).turnNo = s.turnNo := rfl
@[simp] theorem State.push_draws (is : List Item) : (s.push is).draws = s.draws := rfl
@[simp] theorem State.push_drawNo (is : List Item) : (s.push is).drawNo = s.drawNo := rfl
@[simp] theorem State.push_bodies (is : List Item) : (s.push is).bodies = s.bodies := rfl
@[simp] theorem State.push_bodyNo (is : List Item) : (s.push is).bodyNo = s.bodyNo := rfl

/-! State.answer -/

@[simp] theorem State.answer_cfg (v : Value) : (s.answer v).cfg = s.cfg := rfl
@[simp] theorem State.answer_eng (v : Value) : (s.answer v).eng = s.eng := rfl
@[simp] theorem State.answer_rstBusy (v : Value) : (s.answer v).rstBusy = s.rstBusy := rfl
@[simp] theorem State.answer_gie (v : Value) : (s.answer v).gie = s.gie := rfl
@[simp] theorem State.answer_lines (v : Value) : (s.answer v).lines = s.lines := rfl
@[simp] theorem State.answer_sb (v : Value) : (s.answer v).sb = s.sb := rfl
@[simp] theorem State.answer_cache (v : Value) : (s.answer v).cache = s.cache := rfl
@[simp] theorem State.answer_ch (v : Value) : (s.answer v).ch = s.ch := rfl
@[simp] theorem State.answer_ctl (v : Value) : (s.answer v).ctl = s.ctl := rfl
@[simp] theorem State.answer_cblog (v : Value) : (s.answer v).cblog = s.cblog := rfl
@[simp] theorem State.answer_outs (v : Value) : (s.answer v).outs = s.outs := rfl
@[simp] theorem State.answer_logs (v : Value) : (s.answer v).logs = s.logs := rfl
@[simp] theorem State.answer_mem (v : Value) : (s.answer v).mem = s.mem := rfl
@[simp] theorem State.answer_turns (v : Value) : (s.answer v).turns = s.turns := rfl
@[simp] theorem State.answer_turnNo (v : Value) : (s.answer v).turnNo = s.turnNo := rfl
@[simp] theorem State.answer_draws (v : Value) : (s.answer v).draws = s.draws := rfl
@[simp] theorem State.answer_drawNo (v : Value) : (s.answer v).drawNo = s.drawNo := rfl
@[simp] theorem State.answer_bodies (v : Value) : (s.answer v).bodies = s.bodies := rfl
@[simp] theorem State.answer_bodyNo (v : Value) : (s.answer v).bodyNo = s.bodyNo := rfl

/-! State.assign -/

@[simp] theorem State.assign_cfg (d b : Option Nat) (v : Value) : (s.assign d b v).cfg = s.cfg := rfl
@[simp] theorem State.assign_eng (d b : Option Nat) (v : Value) : (s.assign d b v).eng = s.eng := rfl
@[simp] theorem State.assign_rstBusy (d b : Option Nat) (v : Value) : (s.assign d b v).rstBusy = s.rstBusy := rfl
@[simp] theorem State.assign_gie (d b : Option Nat) (v : Value) : (s.assign d b v).gie = s.gie := rfl
@[simp] theorem State.assign_lines (d b : Option Nat) (v : Value) : (s.assign d b v).lines = s.lines := rfl
@[simp] theorem State.assign_sb (d b : Option Nat) (v : Value) : (s.assign d b v).sb = s.sb := rfl
@[simp] theorem State.assign_cache (d b : Option Nat) (v : Value) : (s.assign d b v).cache = s.cache := rfl
@[simp] theorem State.assign_ch (d b : Option Nat) (v : Value) : (s.assign d b v).ch = s.ch := rfl
@[simp] theorem State.assign_ctl (d b : Option Nat) (v : Value) : (s.assign d b v).ctl = s.ctl := rfl
@[simp] theorem State.assign_cblog (d b : Option Nat) (v : Value) : (s.assign d b v).cblog = s.cblog := rfl
@[simp] theorem State.assign_outs (d b : Option Nat) (v : Value) : (s.assign d b v).outs = s.outs := rfl
@[simp] theorem State.assign_logs (d b : Option Nat) (v : Value) : (s.assign d b v).logs = s.logs := rfl
@[simp] theorem State.assign_mem (d b : Option Nat) (v : Value) : (s.assign d b v).mem = s.mem := rfl
@[simp] theorem State.assign_turns (d b : Option Nat) (v : Value) : (s.assign d b v).turns = s.turns := rfl
@[simp] theorem State.assign_turnNo (d b : Option Nat) (v : Value) : (s.assign d b v).turnNo = s.turnNo := rfl
@[simp] theorem State.assign_draws (d b : Option Nat) (v : Value) : (s.assign d b v).draws = s.draws := rfl
@[simp] theorem State.assign_drawNo (d b : Option Nat) (v : Value) : (s.assign d b v).drawNo = s.drawNo := rfl
@[simp] theorem State.assign_bodies (d b : Option Nat) (v : Value) : (s.assign d b v).bodies = s.bodies := rfl
@[simp] theorem State.assign_bodyNo (d b : Option Nat) (v : Value) : (s.assign d b v).bodyNo = s.bodyNo := rfl

/-! State.setEng -/

@[simp] theorem State.setEng_cfg (c : Chan) (e : Eng) : (s.setEng c e).cfg = s.cfg := rfl
@[simp] theorem State.setEng_eng (c : Chan) (e : Eng) : (s.setEng c e).eng = s.eng.set c e := rfl
@[simp] theorem State.setEng_rstBusy (c : Chan) (e : Eng) : (s.setEng c e).rstBusy = s.rstBusy := rfl
@[simp] theorem State.setEng_gie (c : Chan) (e : Eng) : (s.setEng c e).gie = s.gie := rfl
@[simp] theorem State.setEng_lines (c : Chan) (e : Eng) : (s.setEng c e).lines = s.lines := rfl
@[simp] theorem State.setEng_thread (c : Chan) (e : Eng) : (s.setEng c e).thread = s.thread := rfl
@[simp] theorem State.setEng_irqs (c : Chan) (e : Eng) : (s.setEng c e).irqs = s.irqs := rfl
@[simp] theorem State.setEng_sb (c : Chan) (e : Eng) : (s.setEng c e).sb = s.sb := rfl
@[simp] theorem State.setEng_cache (c : Chan) (e : Eng) : (s.setEng c e).cache = s.cache := rfl
@[simp] theorem State.setEng_ch (c : Chan) (e : Eng) : (s.setEng c e).ch = s.ch := rfl
@[simp] theorem State.setEng_ctl (c : Chan) (e : Eng) : (s.setEng c e).ctl = s.ctl := rfl
@[simp] theorem State.setEng_cblog (c : Chan) (e : Eng) : (s.setEng c e).cblog = s.cblog := rfl
@[simp] theorem State.setEng_outs (c : Chan) (e : Eng) : (s.setEng c e).outs = s.outs := rfl
@[simp] theorem State.setEng_logs (c : Chan) (e : Eng) : (s.setEng c e).logs = s.logs := rfl
@[simp] theorem State.setEng_mem (c : Chan) (e : Eng) : (s.setEng c e).mem = s.mem := rfl
@[simp] theorem State.setEng_turns (c : Chan) (e : Eng) : (s.setEng c e).turns = s.turns := rfl
@[simp] theorem State.setEng_turnNo (c : Chan) (e : Eng) : (s.setEng c e).turnNo = s.turnNo := rfl
@[simp] theorem State.setEng_draws (c : Chan) (e : Eng) : (s.setEng c e).draws = s.draws := rfl
@[simp] theorem State.setEng_drawNo (c : Chan) (e : Eng) : (s.setEng c e).drawNo = s.drawNo := rfl
@[simp] theorem State.setEng_bodies (c : Chan) (e : Eng) : (s.setEng c e).bodies = s.bodies := rfl
@[simp] theorem State.setEng_bodyNo (c : Chan) (e : Eng) : (s.setEng c e).bodyNo = s.bodyNo := rfl

/-! State.setRec -/

@[simp] theorem State.setRec_cfg (c : Chan) (r : Record) : (s.setRec c r).cfg = s.cfg := rfl
@[simp] theorem State.setRec_eng (c : Chan) (r : Record) : (s.setRec c r).eng = s.eng := rfl
@[simp] theorem State.setRec_rstBusy (c : Chan) (r : Record) : (s.setRec c r).rstBusy = s.rstBusy := rfl
@[simp] theorem State.setRec_gie (c : Chan) (r : Record) : (s.setRec c r).gie = s.gie := rfl
@[simp] theorem State.setRec_lines (c : Chan) (r : Record) : (s.setRec c r).lines = s.lines := rfl
@[simp] theorem State.setRec_thread (c : Chan) (r : Record) : (s.setRec c r).thread = s.thread := rfl
@[simp] theorem State.setRec_irqs (c : Chan) (r : Record) : (s.setRec c r).irqs = s.irqs := rfl
@[simp] theorem State.setRec_sb (c : Chan) (r : Record) : (s.setRec c r).sb = s.sb := rfl
@[simp] theorem State.setRec_cache (c : Chan) (r : Record) : (s.setRec c r).cache = s.cache := rfl
@[simp] theorem State.setRec_ch (c : Chan) (r : Record) : (s.setRec c r).ch = s.ch.set c r := rfl
@[simp] theorem State.setRec_ctl (c : Chan) (r : Record) : (s.setRec c r).ctl = s.ctl := rfl
@[simp] theorem State.setRec_cblog (c : Chan) (r : Record) : (s.setRec c r).cblog = s.cblog := rfl
@[simp] theorem State.setRec_outs (c : Chan) (r : Record) : (s.setRec c r).outs = s.outs := rfl
@[simp] theorem State.setRec_logs (c : Chan) (r : Record) : (s.setRec c r).logs = s.logs := rfl
@[simp] theorem State.setRec_mem (c : Chan) (r : Record) : (s.setRec c r).mem = s.mem := rfl
@[simp] theorem State.setRec_turns (c : Chan) (r : Record) : (s.setRec c r).turns = s.turns := rfl
@[simp] theorem State.setRec_turnNo (c : Chan) (r : Record) : (s.setRec c r).turnNo = s.turnNo := rfl
@[simp] theorem State.setRec_draws (c : Chan) (r : Record) : (s.setRec c r).draws = s.draws := rfl
@[simp] theorem State.setRec_drawNo (c : Chan) (r : Record) : (s.setRec c r).drawNo = s.drawNo := rfl
@[simp] theorem State.setRec_bodies (c : Chan) (r : Record) : (s.setRec c r).bodies = s.bodies := rfl
@[simp] theorem State.setRec_bodyNo (c : Chan) (r : Record) : (s.setRec c r).bodyNo = s.bodyNo := rfl

/-! State.setMem -/

@[simp] theorem State.setMem_cfg (m : Memory) : (s.setMem m).cfg = s.cfg := rfl
@[simp] theorem State.setMem_eng (m : Memory) : (s.setMem m).eng = s.eng := rfl
@[simp] theorem State.setMem_rstBusy (m : Memory) : (s.setMem m).rstBusy = s.rstBusy := rfl
@[simp] theorem State.setMem_gie (m : Memory) : (s.setMem m).gie = s.gie := rfl
@[simp] theorem State.setMem_lines (m : Memory) : (s.setMem m).lines = s.lines := rfl
@[simp] theorem State.setMem_thread (m : Memory) : (s.setMem m).thread = s.thread := rfl
@[simp] theorem State.setMem_irqs (m : Memory) : (s.setMem m).irqs = s.irqs := rfl
@[simp] theorem State.setMem_sb (m : Memory) : (s.setMem m).sb = s.sb := rfl
@[simp] theorem State.setMem_cache (m : Memory) : (s.setMem m).cache = s.cache := rfl
@[simp] theorem State.setMem_ch (m : Memory) : (s.setMem m).ch = s.ch := rfl
@[simp] theorem State.setMem_ctl (m : Memory) : (s.setMem m).ctl = s.ctl := rfl
@[simp] theorem State.setMem_cblog (m : Memory) : (s.setMem m).cblog = s.cblog := rfl
@[simp] theorem State.setMem_outs (m : Memory) : (s.setMem m).outs = s.outs := rfl
@[simp] theorem State.setMem_logs (m : Memory) : (s.setMem m).logs = s.logs := rfl
@[simp] theorem State.setMem_mem (m : Memory) : (s.setMem m).mem = m := rfl
@[simp] theorem State.setMem_turns (m : Memory) : (s.setMem m).turns = s.turns := rfl
@[simp] theorem State.setMem_turnNo (m : Memory) : (s.setMem m).turnNo = s.turnNo := rfl
@[simp] theorem State.setMem_draws (m : Memory) : (s.setMem m).draws = s.draws := rfl
@[simp] theorem State.setMem_drawNo (m : Memory) : (s.setMem m).drawNo = s.drawNo := rfl
@[simp] theorem State.setMem_bodies (m : Memory) : (s.setMem m).bodies = s.bodies := rfl
@[simp] theorem State.setMem_bodyNo (m : Memory) : (s.setMem m).bodyNo = s.bodyNo := rfl

/-! State.setCache -/

@[simp] theorem State.setCache_cfg (ls : List CacheLine) : (s.setCache ls).cfg = s.cfg := rfl
@[simp] theorem State.setCache_eng (ls : List CacheLine) : (s.setCache ls).eng = s.eng := rfl
@[simp] theorem State.setCache_rstBusy (ls : List CacheLine) : (s.setCache ls).rstBusy = s.rstBusy := rfl
@[simp] theorem State.setCache_gie (ls : List CacheLine) : (s.setCache ls).gie = s.gie := rfl
@[simp] theorem State.setCache_lines (ls : List CacheLine) : (s.setCache ls).lines = s.lines := rfl
@[simp] theorem State.setCache_thread (ls : List CacheLine) : (s.setCache ls).thread = s.thread := rfl
@[simp] theorem State.setCache_irqs (ls : List CacheLine) : (s.setCache ls).irqs = s.irqs := rfl
@[simp] theorem State.setCache_sb (ls : List CacheLine) : (s.setCache ls).sb = s.sb := rfl
@[simp] theorem State.setCache_cache (ls : List CacheLine) : (s.setCache ls).cache = ls := rfl
@[simp] theorem State.setCache_ch (ls : List CacheLine) : (s.setCache ls).ch = s.ch := rfl
@[simp] theorem State.setCache_ctl (ls : List CacheLine) : (s.setCache ls).ctl = s.ctl := rfl
@[simp] theorem State.setCache_cblog (ls : List CacheLine) : (s.setCache ls).cblog = s.cblog := rfl
@[simp] theorem State.setCache_outs (ls : List CacheLine) : (s.setCache ls).outs = s.outs := rfl
@[simp] theorem State.setCache_logs (ls : List CacheLine) : (s.setCache ls).logs = s.logs := rfl
@[simp] theorem State.setCache_mem (ls : List CacheLine) : (s.setCache ls).mem = s.mem := rfl
@[simp] theorem State.setCache_turns (ls : List CacheLine) : (s.setCache ls).turns = s.turns := rfl
@[simp] theorem State.setCache_turnNo (ls : List CacheLine) : (s.setCache ls).turnNo = s.turnNo := rfl
@[simp] theorem State.setCache_draws (ls : List CacheLine) : (s.setCache ls).draws = s.draws := rfl
@[simp] theorem State.setCache_drawNo (ls : List CacheLine) : (s.setCache ls).drawNo = s.drawNo := rfl
@[simp] theorem State.setCache_bodies (ls : List CacheLine) : (s.setCache ls).bodies = s.bodies := rfl
@[simp] theorem State.setCache_bodyNo (ls : List CacheLine) : (s.setCache ls).bodyNo = s.bodyNo := rfl

/-! State.setEn -/

@[simp] theorem State.setEn_cfg (c : Chan) (b : Bool) : (s.setEn c b).cfg = s.cfg := rfl
@[simp] theorem State.setEn_eng (c : Chan) (b : Bool) : (s.setEn c b).eng = s.eng := rfl
@[simp] theorem State.setEn_rstBusy (c : Chan) (b : Bool) : (s.setEn c b).rstBusy = s.rstBusy := rfl
@[simp] theorem State.setEn_gie (c : Chan) (b : Bool) : (s.setEn c b).gie = s.gie := rfl
@[simp] theorem State.setEn_lines (c : Chan) (b : Bool) : (s.setEn c b).lines = s.lines.set c { s.lines.get c with en := b } := rfl
@[simp] theorem State.setEn_thread (c : Chan) (b : Bool) : (s.setEn c b).thread = s.thread := rfl
@[simp] theorem State.setEn_irqs (c : Chan) (b : Bool) : (s.setEn c b).irqs = s.irqs := rfl
@[simp] theorem State.setEn_sb (c : Chan) (b : Bool) : (s.setEn c b).sb = s.sb := rfl
@[simp] theorem State.setEn_cache (c : Chan) (b : Bool) : (s.setEn c b).cache = s.cache := rfl
@[simp] theorem State.setEn_ch (c : Chan) (b : Bool) : (s.setEn c b).ch = s.ch := rfl
@[simp] theorem State.setEn_ctl (c : Chan) (b : Bool) : (s.setEn c b).ctl = s.ctl := rfl
@[simp] theorem State.setEn_cblog (c : Chan) (b : Bool) : (s.setEn c b).cblog = s.cblog := rfl
@[simp] theorem State.setEn_outs (c : Chan) (b : Bool) : (s.setEn c b).outs = s.outs := rfl
@[simp] theorem State.setEn_logs (c : Chan) (b : Bool) : (s.setEn c b).logs = s.logs := rfl
@[simp] theorem State.setEn_mem (c : Chan) (b : Bool) : (s.setEn c b).mem = s.mem := rfl
@[simp] theorem State.setEn_turns (c : Chan) (b : Bool) : (s.setEn c b).turns = s.turns := rfl
@[simp] theorem State.setEn_turnNo (c : Chan) (b : Bool) : (s.setEn c b).turnNo = s.turnNo := rfl
@[simp] theorem State.setEn_draws (c : Chan) (b : Bool) : (s.setEn c b).draws = s.draws := rfl
@[simp] theorem State.setEn_drawNo (c : Chan) (b : Bool) : (s.setEn c b).drawNo = s.drawNo := rfl
@[simp] theorem State.setEn_bodies (c : Chan) (b : Bool) : (s.setEn c b).bodies = s.bodies := rfl
@[simp] theorem State.setEn_bodyNo (c : Chan) (b : Bool) : (s.setEn c b).bodyNo = s.bodyNo := rfl

/-! State.install -/

@[simp] theorem State.install_cfg (c : Chan) : (s.install c).cfg = s.cfg := rfl
@[simp] theorem State.install_eng (c : Chan) : (s.install c).eng = s.eng := rfl
@[simp] theorem State.install_rstBusy (c : Chan) : (s.install c).rstBusy = s.rstBusy := rfl
@[simp] theorem State.install_gie (c : Chan) : (s.install c).gie = s.gie := rfl
@[simp] theorem State.install_lines (c : Chan) : (s.install c).lines = s.lines.set c { s.lines.get c with inst := true } := rfl
@[simp] theorem State.install_thread (c : Chan) : (s.install c).thread = s.thread := rfl
@[simp] theorem State.install_irqs (c : Chan) : (s.install c).irqs = s.irqs := rfl
@[simp] theorem State.install_sb (c : Chan) : (s.install c).sb = s.sb := rfl
@[simp] theorem State.install_cache (c : Chan) : (s.install c).cache = s.cache := rfl
@[simp] theorem State.install_ch (c : Chan) : (s.install c).ch = s.ch := rfl
@[simp] theorem State.install_ctl (c : Chan) : (s.install c).ctl = s.ctl := rfl
@[simp] theorem State.install_cblog (c : Chan) : (s.install c).cblog = s.cblog := rfl
@[simp] theorem State.install_outs (c : Chan) : (s.install c).outs = s.outs := rfl
@[simp] theorem State.install_logs (c : Chan) : (s.install c).logs = s.logs := rfl
@[simp] theorem State.install_mem (c : Chan) : (s.install c).mem = s.mem := rfl
@[simp] theorem State.install_turns (c : Chan) : (s.install c).turns = s.turns := rfl
@[simp] theorem State.install_turnNo (c : Chan) : (s.install c).turnNo = s.turnNo := rfl
@[simp] theorem State.install_draws (c : Chan) : (s.install c).draws = s.draws := rfl
@[simp] theorem State.install_drawNo (c : Chan) : (s.install c).drawNo = s.drawNo := rfl
@[simp] theorem State.install_bodies (c : Chan) : (s.install c).bodies = s.bodies := rfl
@[simp] theorem State.install_bodyNo (c : Chan) : (s.install c).bodyNo = s.bodyNo := rfl

/-! State.buffer -/

@[simp] theorem State.buffer_cfg (a : Addr) (v : Word) : (s.buffer a v).cfg = s.cfg := rfl
@[simp] theorem State.buffer_eng (a : Addr) (v : Word) : (s.buffer a v).eng = s.eng := rfl
@[simp] theorem State.buffer_rstBusy (a : Addr) (v : Word) : (s.buffer a v).rstBusy = s.rstBusy := rfl
@[simp] theorem State.buffer_gie (a : Addr) (v : Word) : (s.buffer a v).gie = s.gie := rfl
@[simp] theorem State.buffer_lines (a : Addr) (v : Word) : (s.buffer a v).lines = s.lines := rfl
@[simp] theorem State.buffer_thread (a : Addr) (v : Word) : (s.buffer a v).thread = s.thread := rfl
@[simp] theorem State.buffer_irqs (a : Addr) (v : Word) : (s.buffer a v).irqs = s.irqs := rfl
@[simp] theorem State.buffer_sb (a : Addr) (v : Word) : (s.buffer a v).sb = s.sb ++ [⟨a, v⟩] := rfl
@[simp] theorem State.buffer_cache (a : Addr) (v : Word) : (s.buffer a v).cache = s.cache := rfl
@[simp] theorem State.buffer_ch (a : Addr) (v : Word) : (s.buffer a v).ch = s.ch := rfl
@[simp] theorem State.buffer_ctl (a : Addr) (v : Word) : (s.buffer a v).ctl = s.ctl := rfl
@[simp] theorem State.buffer_cblog (a : Addr) (v : Word) : (s.buffer a v).cblog = s.cblog := rfl
@[simp] theorem State.buffer_outs (a : Addr) (v : Word) : (s.buffer a v).outs = s.outs := rfl
@[simp] theorem State.buffer_logs (a : Addr) (v : Word) : (s.buffer a v).logs = s.logs := rfl
@[simp] theorem State.buffer_mem (a : Addr) (v : Word) : (s.buffer a v).mem = s.mem := rfl
@[simp] theorem State.buffer_turns (a : Addr) (v : Word) : (s.buffer a v).turns = s.turns := rfl
@[simp] theorem State.buffer_turnNo (a : Addr) (v : Word) : (s.buffer a v).turnNo = s.turnNo := rfl
@[simp] theorem State.buffer_draws (a : Addr) (v : Word) : (s.buffer a v).draws = s.draws := rfl
@[simp] theorem State.buffer_drawNo (a : Addr) (v : Word) : (s.buffer a v).drawNo = s.drawNo := rfl
@[simp] theorem State.buffer_bodies (a : Addr) (v : Word) : (s.buffer a v).bodies = s.bodies := rfl
@[simp] theorem State.buffer_bodyNo (a : Addr) (v : Word) : (s.buffer a v).bodyNo = s.bodyNo := rfl

/-! State.spend -/

@[simp] theorem State.spend_cfg (k : Nat) : (s.spend k).cfg = s.cfg := rfl
@[simp] theorem State.spend_eng (k : Nat) : (s.spend k).eng = s.eng := rfl
@[simp] theorem State.spend_rstBusy (k : Nat) : (s.spend k).rstBusy = s.rstBusy := rfl
@[simp] theorem State.spend_gie (k : Nat) : (s.spend k).gie = s.gie := rfl
@[simp] theorem State.spend_lines (k : Nat) : (s.spend k).lines = s.lines := rfl
@[simp] theorem State.spend_thread (k : Nat) : (s.spend k).thread = s.thread := rfl
@[simp] theorem State.spend_irqs (k : Nat) : (s.spend k).irqs = s.irqs := rfl
@[simp] theorem State.spend_sb (k : Nat) : (s.spend k).sb = s.sb := rfl
@[simp] theorem State.spend_cache (k : Nat) : (s.spend k).cache = s.cache := rfl
@[simp] theorem State.spend_ch (k : Nat) : (s.spend k).ch = s.ch := rfl
@[simp] theorem State.spend_ctl (k : Nat) : (s.spend k).ctl = s.ctl := rfl
@[simp] theorem State.spend_cblog (k : Nat) : (s.spend k).cblog = s.cblog := rfl
@[simp] theorem State.spend_outs (k : Nat) : (s.spend k).outs = s.outs := rfl
@[simp] theorem State.spend_logs (k : Nat) : (s.spend k).logs = s.logs := rfl
@[simp] theorem State.spend_mem (k : Nat) : (s.spend k).mem = s.mem := rfl
@[simp] theorem State.spend_turns (k : Nat) : (s.spend k).turns = s.turns := rfl
@[simp] theorem State.spend_turnNo (k : Nat) : (s.spend k).turnNo = s.turnNo := rfl
@[simp] theorem State.spend_draws (k : Nat) : (s.spend k).draws = s.draws.drop k := rfl
@[simp] theorem State.spend_drawNo (k : Nat) : (s.spend k).drawNo = s.drawNo + (k - s.draws.length) := rfl
@[simp] theorem State.spend_bodies (k : Nat) : (s.spend k).bodies = s.bodies := rfl
@[simp] theorem State.spend_bodyNo (k : Nat) : (s.spend k).bodyNo = s.bodyNo := rfl

/-! State.softReset -/

@[simp] theorem State.softReset_cfg : (s.softReset).cfg = s.cfg := rfl
@[simp] theorem State.softReset_eng : (s.softReset).eng = ⟨Eng.softReset (s.choice 0) (s.choice 1), Eng.softReset (s.choice 2) (s.choice 3)⟩ := rfl
@[simp] theorem State.softReset_rstBusy : (s.softReset).rstBusy = true := rfl
@[simp] theorem State.softReset_gie : (s.softReset).gie = s.gie := rfl
@[simp] theorem State.softReset_lines : (s.softReset).lines = s.lines := rfl
@[simp] theorem State.softReset_thread : (s.softReset).thread = s.thread := rfl
@[simp] theorem State.softReset_irqs : (s.softReset).irqs = s.irqs := rfl
@[simp] theorem State.softReset_sb : (s.softReset).sb = s.sb := rfl
@[simp] theorem State.softReset_cache : (s.softReset).cache = s.cache := rfl
@[simp] theorem State.softReset_ch : (s.softReset).ch = s.ch := rfl
@[simp] theorem State.softReset_ctl : (s.softReset).ctl = s.ctl := rfl
@[simp] theorem State.softReset_cblog : (s.softReset).cblog = s.cblog := rfl
@[simp] theorem State.softReset_outs : (s.softReset).outs = s.outs := rfl
@[simp] theorem State.softReset_logs : (s.softReset).logs = s.logs := rfl
@[simp] theorem State.softReset_mem : (s.softReset).mem = s.mem := rfl
@[simp] theorem State.softReset_turns : (s.softReset).turns = s.turns := rfl
@[simp] theorem State.softReset_turnNo : (s.softReset).turnNo = s.turnNo := rfl
@[simp] theorem State.softReset_draws : (s.softReset).draws = s.draws.drop 4 := rfl
@[simp] theorem State.softReset_drawNo : (s.softReset).drawNo = s.drawNo + (4 - s.draws.length) := rfl
@[simp] theorem State.softReset_bodies : (s.softReset).bodies = s.bodies := rfl
@[simp] theorem State.softReset_bodyNo : (s.softReset).bodyNo = s.bodyNo := rfl

/-! State.takeIrq -/

@[simp] theorem State.takeIrq_cfg (c : Chan) : (s.takeIrq c).cfg = s.cfg := rfl
@[simp] theorem State.takeIrq_eng (c : Chan) : (s.takeIrq c).eng = s.eng := rfl
@[simp] theorem State.takeIrq_rstBusy (c : Chan) : (s.takeIrq c).rstBusy = s.rstBusy := rfl
@[simp] theorem State.takeIrq_gie (c : Chan) : (s.takeIrq c).gie = s.gie := rfl
@[simp] theorem State.takeIrq_lines (c : Chan) : (s.takeIrq c).lines = s.lines := rfl
@[simp] theorem State.takeIrq_thread (c : Chan) : (s.takeIrq c).thread = s.thread := rfl
@[simp] theorem State.takeIrq_irqs (c : Chan) : (s.takeIrq c).irqs = ⟨c, (s.ch.get c).irq, isrCtx c⟩ :: s.irqs := rfl
@[simp] theorem State.takeIrq_sb (c : Chan) : (s.takeIrq c).sb = s.sb := rfl
@[simp] theorem State.takeIrq_cache (c : Chan) : (s.takeIrq c).cache = s.cache := rfl
@[simp] theorem State.takeIrq_ch (c : Chan) : (s.takeIrq c).ch = s.ch := rfl
@[simp] theorem State.takeIrq_ctl (c : Chan) : (s.takeIrq c).ctl = s.ctl := rfl
@[simp] theorem State.takeIrq_cblog (c : Chan) : (s.takeIrq c).cblog = s.cblog := rfl
@[simp] theorem State.takeIrq_outs (c : Chan) : (s.takeIrq c).outs = s.outs := rfl
@[simp] theorem State.takeIrq_logs (c : Chan) : (s.takeIrq c).logs = s.logs := rfl
@[simp] theorem State.takeIrq_mem (c : Chan) : (s.takeIrq c).mem = s.mem := rfl
@[simp] theorem State.takeIrq_turns (c : Chan) : (s.takeIrq c).turns = s.turns := rfl
@[simp] theorem State.takeIrq_turnNo (c : Chan) : (s.takeIrq c).turnNo = s.turnNo := rfl
@[simp] theorem State.takeIrq_draws (c : Chan) : (s.takeIrq c).draws = s.draws := rfl
@[simp] theorem State.takeIrq_drawNo (c : Chan) : (s.takeIrq c).drawNo = s.drawNo := rfl
@[simp] theorem State.takeIrq_bodies (c : Chan) : (s.takeIrq c).bodies = s.bodies := rfl
@[simp] theorem State.takeIrq_bodyNo (c : Chan) : (s.takeIrq c).bodyNo = s.bodyNo := rfl

/-! State.settle -/

@[simp] theorem State.settle_cfg : (s.settle).cfg = s.cfg := rfl
@[simp] theorem State.settle_eng : (s.settle).eng = s.eng := rfl
@[simp] theorem State.settle_rstBusy : (s.settle).rstBusy = s.rstBusy := rfl
@[simp] theorem State.settle_gie : (s.settle).gie = s.gie := rfl
@[simp] theorem State.settle_lines : (s.settle).lines = s.lines := rfl
@[simp] theorem State.settle_thread : (s.settle).thread = s.thread := rfl
@[simp] theorem State.settle_irqs : (s.settle).irqs = settleIrqs s.irqs := rfl
@[simp] theorem State.settle_sb : (s.settle).sb = s.sb := rfl
@[simp] theorem State.settle_cache : (s.settle).cache = s.cache := rfl
@[simp] theorem State.settle_ch : (s.settle).ch = s.ch := rfl
@[simp] theorem State.settle_ctl : (s.settle).ctl = s.ctl := rfl
@[simp] theorem State.settle_cblog : (s.settle).cblog = s.cblog := rfl
@[simp] theorem State.settle_outs : (s.settle).outs = s.outs := rfl
@[simp] theorem State.settle_logs : (s.settle).logs = s.logs := rfl
@[simp] theorem State.settle_mem : (s.settle).mem = s.mem := rfl
@[simp] theorem State.settle_turns : (s.settle).turns = s.turns := rfl
@[simp] theorem State.settle_turnNo : (s.settle).turnNo = s.turnNo := rfl
@[simp] theorem State.settle_draws : (s.settle).draws = s.draws := rfl
@[simp] theorem State.settle_drawNo : (s.settle).drawNo = s.drawNo := rfl
@[simp] theorem State.settle_bodies : (s.settle).bodies = s.bodies := rfl
@[simp] theorem State.settle_bodyNo : (s.settle).bodyNo = s.bodyNo := rfl

/-! State.logCallback -/

@[simp] theorem State.logCallback_cfg (c : Chan) (r : CbResult) : (s.logCallback c r).cfg = s.cfg := rfl
@[simp] theorem State.logCallback_eng (c : Chan) (r : CbResult) : (s.logCallback c r).eng = s.eng := rfl
@[simp] theorem State.logCallback_rstBusy (c : Chan) (r : CbResult) : (s.logCallback c r).rstBusy = s.rstBusy := rfl
@[simp] theorem State.logCallback_gie (c : Chan) (r : CbResult) : (s.logCallback c r).gie = s.gie := rfl
@[simp] theorem State.logCallback_lines (c : Chan) (r : CbResult) : (s.logCallback c r).lines = s.lines := rfl
@[simp] theorem State.logCallback_thread (c : Chan) (r : CbResult) : (s.logCallback c r).thread = s.thread := rfl
@[simp] theorem State.logCallback_irqs (c : Chan) (r : CbResult) : (s.logCallback c r).irqs = s.irqs := rfl
@[simp] theorem State.logCallback_sb (c : Chan) (r : CbResult) : (s.logCallback c r).sb = s.sb := rfl
@[simp] theorem State.logCallback_cache (c : Chan) (r : CbResult) : (s.logCallback c r).cache = s.cache := rfl
@[simp] theorem State.logCallback_ch (c : Chan) (r : CbResult) : (s.logCallback c r).ch = s.ch := rfl
@[simp] theorem State.logCallback_ctl (c : Chan) (r : CbResult) : (s.logCallback c r).ctl = s.ctl := rfl
@[simp] theorem State.logCallback_cblog (c : Chan) (r : CbResult) : (s.logCallback c r).cblog = s.cblog ++ [⟨c, (s.ch.get c).ud, r⟩] := rfl
@[simp] theorem State.logCallback_outs (c : Chan) (r : CbResult) : (s.logCallback c r).outs = s.outs := rfl
@[simp] theorem State.logCallback_logs (c : Chan) (r : CbResult) : (s.logCallback c r).logs = s.logs := rfl
@[simp] theorem State.logCallback_mem (c : Chan) (r : CbResult) : (s.logCallback c r).mem = s.mem := rfl
@[simp] theorem State.logCallback_turns (c : Chan) (r : CbResult) : (s.logCallback c r).turns = s.turns := rfl
@[simp] theorem State.logCallback_turnNo (c : Chan) (r : CbResult) : (s.logCallback c r).turnNo = s.turnNo := rfl
@[simp] theorem State.logCallback_draws (c : Chan) (r : CbResult) : (s.logCallback c r).draws = s.draws := rfl
@[simp] theorem State.logCallback_drawNo (c : Chan) (r : CbResult) : (s.logCallback c r).drawNo = s.drawNo := rfl
@[simp] theorem State.logCallback_bodies (c : Chan) (r : CbResult) : (s.logCallback c r).bodies = s.bodies := rfl
@[simp] theorem State.logCallback_bodyNo (c : Chan) (r : CbResult) : (s.logCallback c r).bodyNo = s.bodyNo := rfl

/-! State.takeBody -/

@[simp] theorem State.takeBody_cfg : (s.takeBody).cfg = s.cfg := rfl
@[simp] theorem State.takeBody_eng : (s.takeBody).eng = s.eng := rfl
@[simp] theorem State.takeBody_rstBusy : (s.takeBody).rstBusy = s.rstBusy := rfl
@[simp] theorem State.takeBody_gie : (s.takeBody).gie = s.gie := rfl
@[simp] theorem State.takeBody_lines : (s.takeBody).lines = s.lines := rfl
@[simp] theorem State.takeBody_thread : (s.takeBody).thread = s.thread := rfl
@[simp] theorem State.takeBody_irqs : (s.takeBody).irqs = s.irqs := rfl
@[simp] theorem State.takeBody_sb : (s.takeBody).sb = s.sb := rfl
@[simp] theorem State.takeBody_cache : (s.takeBody).cache = s.cache := rfl
@[simp] theorem State.takeBody_ch : (s.takeBody).ch = s.ch := rfl
@[simp] theorem State.takeBody_ctl : (s.takeBody).ctl = s.ctl := rfl
@[simp] theorem State.takeBody_cblog : (s.takeBody).cblog = s.cblog := rfl
@[simp] theorem State.takeBody_outs : (s.takeBody).outs = s.outs := rfl
@[simp] theorem State.takeBody_logs : (s.takeBody).logs = s.logs := rfl
@[simp] theorem State.takeBody_mem : (s.takeBody).mem = s.mem := rfl
@[simp] theorem State.takeBody_turns : (s.takeBody).turns = s.turns := rfl
@[simp] theorem State.takeBody_turnNo : (s.takeBody).turnNo = s.turnNo := rfl
@[simp] theorem State.takeBody_draws : (s.takeBody).draws = s.draws := rfl
@[simp] theorem State.takeBody_drawNo : (s.takeBody).drawNo = s.drawNo := rfl
@[simp] theorem State.takeBody_bodies : (s.takeBody).bodies = s.bodies.drop 1 := rfl
@[simp] theorem State.takeBody_bodyNo : (s.takeBody).bodyNo = s.bodyNo + (1 - s.bodies.length) := rfl

/-! State.nextTurn -/

@[simp] theorem State.nextTurn_cfg : (s.nextTurn).cfg = s.cfg := rfl
@[simp] theorem State.nextTurn_eng : (s.nextTurn).eng = s.eng := rfl
@[simp] theorem State.nextTurn_rstBusy : (s.nextTurn).rstBusy = s.rstBusy := rfl
@[simp] theorem State.nextTurn_gie : (s.nextTurn).gie = s.gie := rfl
@[simp] theorem State.nextTurn_lines : (s.nextTurn).lines = s.lines := rfl
@[simp] theorem State.nextTurn_thread : (s.nextTurn).thread = s.thread := rfl
@[simp] theorem State.nextTurn_irqs : (s.nextTurn).irqs = s.irqs := rfl
@[simp] theorem State.nextTurn_sb : (s.nextTurn).sb = s.sb := rfl
@[simp] theorem State.nextTurn_cache : (s.nextTurn).cache = s.cache := rfl
@[simp] theorem State.nextTurn_ch : (s.nextTurn).ch = s.ch := rfl
@[simp] theorem State.nextTurn_ctl : (s.nextTurn).ctl = s.ctl := rfl
@[simp] theorem State.nextTurn_cblog : (s.nextTurn).cblog = s.cblog := rfl
@[simp] theorem State.nextTurn_outs : (s.nextTurn).outs = s.outs := rfl
@[simp] theorem State.nextTurn_logs : (s.nextTurn).logs = s.logs := rfl
@[simp] theorem State.nextTurn_mem : (s.nextTurn).mem = s.mem := rfl
@[simp] theorem State.nextTurn_turns : (s.nextTurn).turns = s.turns.drop 1 := rfl
@[simp] theorem State.nextTurn_turnNo : (s.nextTurn).turnNo = s.turnNo + (1 - s.turns.length) := rfl
@[simp] theorem State.nextTurn_draws : (s.nextTurn).draws = s.draws := rfl
@[simp] theorem State.nextTurn_drawNo : (s.nextTurn).drawNo = s.drawNo := rfl
@[simp] theorem State.nextTurn_bodies : (s.nextTurn).bodies = s.bodies := rfl
@[simp] theorem State.nextTurn_bodyNo : (s.nextTurn).bodyNo = s.bodyNo := rfl

/-! State.evictLine -/

@[simp] theorem State.evictLine_cfg (l : CacheLine) : (s.evictLine l).cfg = s.cfg := rfl
@[simp] theorem State.evictLine_eng (l : CacheLine) : (s.evictLine l).eng = s.eng := rfl
@[simp] theorem State.evictLine_rstBusy (l : CacheLine) : (s.evictLine l).rstBusy = s.rstBusy := rfl
@[simp] theorem State.evictLine_gie (l : CacheLine) : (s.evictLine l).gie = s.gie := rfl
@[simp] theorem State.evictLine_lines (l : CacheLine) : (s.evictLine l).lines = s.lines := rfl
@[simp] theorem State.evictLine_thread (l : CacheLine) : (s.evictLine l).thread = s.thread := rfl
@[simp] theorem State.evictLine_irqs (l : CacheLine) : (s.evictLine l).irqs = s.irqs := rfl
@[simp] theorem State.evictLine_sb (l : CacheLine) : (s.evictLine l).sb = s.sb := rfl
@[simp] theorem State.evictLine_cache (l : CacheLine) : (s.evictLine l).cache = cacheDrop s.cache l.base := rfl
@[simp] theorem State.evictLine_ch (l : CacheLine) : (s.evictLine l).ch = s.ch := rfl
@[simp] theorem State.evictLine_ctl (l : CacheLine) : (s.evictLine l).ctl = s.ctl := rfl
@[simp] theorem State.evictLine_cblog (l : CacheLine) : (s.evictLine l).cblog = s.cblog := rfl
@[simp] theorem State.evictLine_outs (l : CacheLine) : (s.evictLine l).outs = s.outs := rfl
@[simp] theorem State.evictLine_logs (l : CacheLine) : (s.evictLine l).logs = s.logs := rfl
@[simp] theorem State.evictLine_mem (l : CacheLine) : (s.evictLine l).mem = if l.dirty then s.mem.writeBytes l.base l.bytes else s.mem := rfl
@[simp] theorem State.evictLine_turns (l : CacheLine) : (s.evictLine l).turns = s.turns := rfl
@[simp] theorem State.evictLine_turnNo (l : CacheLine) : (s.evictLine l).turnNo = s.turnNo := rfl
@[simp] theorem State.evictLine_draws (l : CacheLine) : (s.evictLine l).draws = s.draws := rfl
@[simp] theorem State.evictLine_drawNo (l : CacheLine) : (s.evictLine l).drawNo = s.drawNo := rfl
@[simp] theorem State.evictLine_bodies (l : CacheLine) : (s.evictLine l).bodies = s.bodies := rfl
@[simp] theorem State.evictLine_bodyNo (l : CacheLine) : (s.evictLine l).bodyNo = s.bodyNo := rfl

end Sys2Proof.Machine
end

