-- ==== Sys2Proof/Laws/Memory.lean ====
section
/-! SUPPORT. Memory: a read after a write, and every memory operation keeps the canonical form. -/

namespace Sys2Proof.Machine

theorem Memory.wfFrom_cons {lo a : Nat} {b : Byte} {m : Memory} :
    Memory.wfFrom lo ((a, b) :: m) = true ↔
      lo ≤ a ∧ a < 2 ^ 64 ∧ b ≠ Memory.blank ∧ Memory.wfFrom (a + 1) m = true := by
  simp [Memory.wfFrom, and_assoc]

theorem Memory.wfFrom_mono {lo hi : Nat} {m : Memory} (h : lo ≤ hi) (w : Memory.wfFrom hi m = true) :
    Memory.wfFrom lo m = true := by
  cases m with
  | nil => rfl
  | cons x m =>
    obtain ⟨a, b⟩ := x
    rw [Memory.wfFrom_cons] at w ⊢
    exact ⟨h.trans w.1, w.2⟩

/-- Below its first possible address a memory reads blank. -/
theorem Memory.read_below {lo x : Nat} {m : Memory} (w : Memory.wfFrom lo m = true) (h : x < lo) :
    m.read x = Memory.blank := by
  induction m generalizing lo with
  | nil => rfl
  | cons y m ih =>
    obtain ⟨a, b⟩ := y
    rw [Memory.wfFrom_cons] at w
    have : ¬ a = x := by omega
    simp only [Memory.read, this, if_false]
    exact ih w.2.2.2 (by omega)

theorem Memory.write_wfFrom {lo a : Nat} {b : Byte} {m : Memory} (w : Memory.wfFrom lo m = true) (hl : lo ≤ a)
    (ha : a < 2 ^ 64) : Memory.wfFrom lo (m.write a b) = true := by
  induction m generalizing lo with
  | nil =>
    by_cases hb : b = Memory.blank
    · simp [Memory.write, hb, Memory.wfFrom]
    · simp only [Memory.write, hb, if_false]
      exact Memory.wfFrom_cons.2 ⟨hl, ha, hb, rfl⟩
  | cons y m ih =>
    obtain ⟨k, c⟩ := y
    have w0 := w
    rw [Memory.wfFrom_cons] at w
    obtain ⟨h1, h2, h3, h4⟩ := w
    unfold Memory.write
    by_cases hk : a < k
    · rw [if_pos hk]
      split
      · exact w0
      · rename_i hb
        exact Memory.wfFrom_cons.2 ⟨hl, ha, hb, Memory.wfFrom_cons.2 ⟨hk, h2, h3, h4⟩⟩
    · rw [if_neg hk]
      split
      · rename_i he
        split
        · exact Memory.wfFrom_mono (by omega) h4
        · rename_i hb
          exact Memory.wfFrom_cons.2 ⟨hl, ha, hb, he ▸ h4⟩
      · exact Memory.wfFrom_cons.2 ⟨h1, h2, h3, ih h4 (by omega)⟩

/-- A write keeps the canonical form. -/
theorem Memory.write_wf {a : Nat} {b : Byte} {m : Memory} (w : m.wf = true) (ha : a < 2 ^ 64) :
    (m.write a b).wf = true := Memory.write_wfFrom w (Nat.zero_le _) ha

theorem Memory.read_write_wfFrom {lo : Nat} {m : Memory} (w : Memory.wfFrom lo m = true) (a x : Nat) (b : Byte) :
    (m.write a b).read x = if x = a then b else m.read x := by
  induction m generalizing lo with
  | nil =>
    by_cases hb : b = Memory.blank
    · simp [Memory.write, hb, Memory.read]
    · simp [Memory.write, hb, Memory.read, eq_comm]
  | cons y m ih =>
    obtain ⟨k, c⟩ := y
    have w0 := w
    rw [Memory.wfFrom_cons] at w
    obtain ⟨-, -, -, h4⟩ := w
    unfold Memory.write
    by_cases hk : a < k
    · rw [if_pos hk]
      split
      · rename_i hb
        by_cases hx : x = a
        · have : ¬ k = x := by omega
          simp only [hx, if_true, Memory.read]
          rw [if_neg (by omega), hb]
          exact Memory.read_below h4 (by omega)
        · simp [hx]
      · by_cases hx : x = a
        · simp [Memory.read, hx]
        · simp [Memory.read, hx, eq_comm (a := a)]
    · rw [if_neg hk]
      split
      · rename_i he
        subst he
        split
        · rename_i hb
          by_cases hx : x = a
          · rw [if_pos hx, hb]
            exact Memory.read_below h4 (by omega)
          · simp [Memory.read, hx, eq_comm (a := a)]
        · by_cases hx : x = a <;> simp [Memory.read, hx, eq_comm (a := a)]
      · rename_i he
        by_cases hx : k = x
        · subst hx
          simp [Memory.read, Ne.symm he]
        · simp only [Memory.read, hx, if_false]
          exact ih h4

/-- A byte reads back as last written, and a write leaves every other byte alone. -/
theorem Memory.read_write {m : Memory} (w : m.wf = true) (a x : Nat) (b : Byte) :
    (m.write a b).read x = if x = a then b else m.read x := Memory.read_write_wfFrom w a x b

/-- A write of several bytes keeps the canonical form. -/
theorem Memory.writeBytes_wf {m : Memory} (w : m.wf = true) (a : Nat) (bs : List Byte) :
    (m.writeBytes a bs).wf = true := by
  induction bs generalizing m a with
  | nil => exact w
  | cons b bs ih => exact ih (Memory.write_wf w (Nat.mod_lt _ (by decide))) (a + 1)

/-- A write of several bytes leaves every byte outside its range alone. -/
theorem Memory.read_writeBytes_outside {m : Memory} (w : m.wf = true) (a x : Nat) (bs : List Byte)
    (h : ∀ i, i < bs.length → x ≠ (a + i) % 2 ^ 64) : (m.writeBytes a bs).read x = m.read x := by
  induction bs generalizing m a with
  | nil => rfl
  | cons b bs ih =>
    have hw := Memory.write_wf (b := b) w (Nat.mod_lt a (show 0 < 2 ^ 64 by decide))
    rw [Memory.writeBytes, ih hw (a + 1) ?_, Memory.read_write w, if_neg (by simpa using h 0 (by simp))]
    intro i hi
    have := h (i + 1) (by simpa using hi)
    rwa [show a + (i + 1) = a + 1 + i by omega] at this

/-- Bytes written in ascending addresses read back, the range not meeting itself. -/
theorem Memory.read_writeBytes_inside {m : Memory} (w : m.wf = true) (a i : Nat) (bs : List Byte)
    (hl : bs.length ≤ 2 ^ 64) (hi : i < bs.length) :
    (m.writeBytes a bs).read ((a + i) % 2 ^ 64) = bs[i] := by
  induction bs generalizing m a i with
  | nil => simp at hi
  | cons b bs ih =>
    have hw := Memory.write_wf (b := b) w (Nat.mod_lt a (show 0 < 2 ^ 64 by decide))
    simp only [List.length_cons] at hl hi
    cases i with
    | zero =>
      rw [Memory.writeBytes, Memory.read_writeBytes_outside hw, Memory.read_write w]
      · simp
      · intro j hj
        omega
    | succ i =>
      rw [Memory.writeBytes, show a + (i + 1) = a + 1 + i by omega, ih hw (a + 1) i (by omega) (by omega)]
      rfl

@[simp] theorem Memory.readBytes_length (m : Memory) (a n : Nat) : (m.readBytes a n).length = n := by
  induction n generalizing a with
  | zero => rfl
  | succ n ih => simp [Memory.readBytes, ih]

/-- The i-th byte of a range. -/
theorem Memory.readBytes_get (m : Memory) (a n i : Nat) (h : i < (m.readBytes a n).length) :
    (m.readBytes a n)[i] = m.read ((a + i) % 2 ^ 64) := by
  induction n generalizing a i with
  | zero => simp [Memory.readBytes] at h
  | succ n ih =>
    cases i with
    | zero => rfl
    | succ i =>
      have := ih (a + 1) i (by simpa using h)
      simp only [Memory.readBytes, List.getElem_cons_succ]
      rw [this, show a + 1 + i = a + (i + 1) by omega]

/-- Writing cache lines back keeps the canonical form. -/
theorem writeBack_wf (sel : CacheLine → Bool) (ls : List CacheLine) {m : Memory} (w : m.wf = true) :
    (writeBack sel m ls).wf = true := by
  induction ls generalizing m with
  | nil => exact w
  | cons l t ih =>
    unfold writeBack
    split
    · exact ih (Memory.writeBytes_wf w _ _)
    · exact ih w

/-- The drain of a store keeps the canonical form of memory. -/
theorem State.drainByte_wf {s : State} (w : s.mem.wf = true) (alloc : Bool) {x : Nat} (hx : x < 2 ^ 64) (b : Byte) :
    (s.drainByte alloc x b).mem.wf = true := by
  have h := Memory.write_wf (b := b) w hx
  unfold State.drainByte
  split
  · split
    · exact w
    · split
      · exact w
      · exact h
  · exact h

theorem State.drainBytes_wf {s : State} (w : s.mem.wf = true) (alloc : Bool) (x : Nat) (bs : List Byte) :
    (s.drainBytes alloc x bs).mem.wf = true := by
  induction bs generalizing s x with
  | nil => exact w
  | cons b bs ih => exact ih (State.drainByte_wf w alloc (Nat.mod_lt _ (by decide)) b) (x + 1)

/-- DC_FLUSH keeps the canonical form of memory. -/
theorem State.flush_wf {s : State} (w : s.mem.wf = true) (a n : Nat) : (s.flush a n).mem.wf = true := by
  unfold State.flush
  split
  · exact w
  · exact writeBack_wf _ _ w

/-- An eviction keeps the canonical form of memory. -/
theorem State.evictLine_wf {s : State} (w : s.mem.wf = true) (l : CacheLine) : (s.evictLine l).mem.wf = true := by
  rw [State.evictLine_mem]
  split
  · exact Memory.writeBytes_wf w _ _
  · exact w

/-- Memory is in canonical form at boot. -/
theorem State.boot_mem_wf (p : Params) : (State.boot p).mem.wf = true := rfl

theorem State.reset_mem_wf : State.reset.mem.wf = true := rfl

/-- The bytes of a word, put together again, are the word. -/
theorem wordOfBytes_wordBytes (v : Word) :
    wordOfBytes (v.extractLsb' 0 8) (v.extractLsb' 8 8) (v.extractLsb' 16 8) (v.extractLsb' 24 8) = v := by
  unfold wordOfBytes
  ext i hi
  simp only [BitVec.getElem_append, BitVec.getElem_extractLsb']
  split <;> [skip; (split <;> [skip; (split)])] <;> (try simp) <;> (try (rw [BitVec.getLsbD_eq_getElem (by omega)])) <;>
    congr 1 <;> omega

@[simp] theorem wordBytes_length (v : Word) : (wordBytes v).length = 4 := rfl

/-- A word stored at an address reads back (20_memory.md R102). -/
theorem Memory.readWord_writeBytes {m : Memory} (w : m.wf = true) (a : Addr) (v : Word) :
    (m.writeBytes a.toNat (wordBytes v)).readWord a = v := by
  have h := Memory.read_writeBytes_inside w a.toNat (bs := wordBytes v)
  have h0 := h 0 (by simp) (by simp)
  have h1 := h 1 (by simp) (by simp)
  have h2 := h 2 (by simp) (by simp)
  have h3 := h 3 (by simp) (by simp)
  have ha := a.isLt
  rw [Nat.add_zero, Nat.mod_eq_of_lt ha] at h0
  unfold Memory.readWord
  rw [h0, h1, h2, h3]
  exact wordOfBytes_wordBytes v

/-- A word none of whose bytes is written reads as before. -/
theorem Memory.readWord_writeBytes_outside {m : Memory} (w : m.wf = true) (a : Addr) (x : Nat) (bs : List Byte)
    (h : ∀ k, k < 4 → ∀ i, i < bs.length → (a.toNat + k) % 2 ^ 64 ≠ (x + i) % 2 ^ 64) :
    (m.writeBytes x bs).readWord a = m.readWord a := by
  have ha := a.isLt
  have g : ∀ k, k < 4 → (m.writeBytes x bs).read ((a.toNat + k) % 2 ^ 64) = m.read ((a.toNat + k) % 2 ^ 64) :=
    fun k hk => Memory.read_writeBytes_outside w _ _ _ (h k hk)
  have g0 := g 0 (by decide)
  rw [Nat.add_zero, Nat.mod_eq_of_lt ha] at g0
  unfold Memory.readWord
  rw [g0, g 1 (by decide), g 2 (by decide), g 3 (by decide)]

end Sys2Proof.Machine
end

