-- ==== Sys2Proof/Laws/Ops.lean ====
section
/-! SUPPORT. What each shared operation can do, said once: the running context, the draws, the checks and outcomes, the
host's memory path, the program points. -/

namespace Sys2Proof.Machine

/-! The running context (10_state.md R61). -/

@[simp] theorem State.running_setRunning (s : State) (x : Ctx) : (s.setRunning x).running = x := by
  unfold State.running State.setRunning
  cases s.irqs <;> rfl

@[simp] theorem State.setRunning_running (s : State) : s.setRunning s.running = s := by
  obtain ⟨_, _, _, _, _, _, irqs⟩ := s
  cases irqs <;> rfl

@[simp] theorem State.setRunning_setRunning (s : State) (x y : Ctx) :
    (s.setRunning x).setRunning y = s.setRunning y := by
  obtain ⟨_, _, _, _, _, _, irqs⟩ := s
  cases irqs <;> rfl

@[simp] theorem State.code_setCode (s : State) (is : List Item) : (s.setCode is).code = is := by
  simp [State.code, State.setCode]

@[simp] theorem State.code_push (s : State) (is : List Item) : (s.push is).code = is ++ s.code := by
  simp [State.push]

@[simp] theorem State.ret_setCode (s : State) (is : List Item) : (s.setCode is).ret = s.ret := by
  simp [State.ret, State.setCode]

@[simp] theorem State.ret_push (s : State) (is : List Item) : (s.push is).ret = s.ret := by simp [State.push]

@[simp] theorem State.code_answer (s : State) (v : Value) : (s.answer v).code = s.code := by
  simp [State.code, State.answer]

@[simp] theorem State.ret_answer (s : State) (v : Value) : (s.answer v).ret = v := by simp [State.ret, State.answer]

/-- A program value reads as it was assigned, and every other one as before. -/
theorem lookupVal_assignVal (vals : List (Nat × Value)) (k j : Nat) (v : Value) :
    lookupVal (assignVal vals k v) j = if j = k then some v else lookupVal vals j := by
  unfold lookupVal assignVal
  by_cases h : j = k
  · simp [h]
  · rw [List.find?_cons_of_neg (by simpa using Ne.symm h), if_neg h, List.find?_filter]
    congr 2
    funext p
    by_cases hp : p.1 = j
    · simp [hp, h]
    · simp [hp]

/-- What a line's tD and tB hold after it, tB named apart from tD. -/
theorem lookupVal_assignResult (vals : List (Nat × Value)) (d b j : Nat) (v : Value) :
    lookupVal (assignResult vals (some d) (some b) v) j =
      match v.second with
      | some w => if j = b then some w else if j = d then some v.first else lookupVal vals j
      | none => if j = d then some v.first else lookupVal vals j := by
  cases h : v.second <;> simp [assignResult, assignOpt, h, lookupVal_assignVal]

@[simp] theorem State.code_assign (s : State) (d b : Option Nat) (v : Value) : (s.assign d b v).code = s.code := by
  simp [State.code, State.assign]

/-- What an operation puts before the running context's code comes off it again. -/
@[simp] theorem State.setCode_push (s : State) (is js : List Item) : (s.push is).setCode js = s.setCode js := by
  simp [State.push, State.setCode]

theorem State.setCode_code (s : State) : s.setCode s.code = s := s.setRunning_running

theorem State.push_nil (s : State) : s.push [] = s := by simp [State.push, State.setCode_code]

@[simp] theorem State.running_setEng (s : State) (c : Chan) (e : Eng) : (s.setEng c e).running = s.running := rfl
@[simp] theorem State.code_setEng (s : State) (c : Chan) (e : Eng) : (s.setEng c e).code = s.code := rfl
@[simp] theorem State.ret_setEng (s : State) (c : Chan) (e : Eng) : (s.setEng c e).ret = s.ret := rfl
@[simp] theorem State.running_setRec (s : State) (c : Chan) (r : Record) : (s.setRec c r).running = s.running := rfl
@[simp] theorem State.code_setRec (s : State) (c : Chan) (r : Record) : (s.setRec c r).code = s.code := rfl
@[simp] theorem State.ret_setRec (s : State) (c : Chan) (r : Record) : (s.setRec c r).ret = s.ret := rfl
@[simp] theorem State.running_setMem (s : State) (m : Memory) : (s.setMem m).running = s.running := rfl
@[simp] theorem State.code_setMem (s : State) (m : Memory) : (s.setMem m).code = s.code := rfl
@[simp] theorem State.ret_setMem (s : State) (m : Memory) : (s.setMem m).ret = s.ret := rfl
@[simp] theorem State.running_setCache (s : State) (ls : List CacheLine) : (s.setCache ls).running = s.running := rfl
@[simp] theorem State.code_setCache (s : State) (ls : List CacheLine) : (s.setCache ls).code = s.code := rfl
@[simp] theorem State.ret_setCache (s : State) (ls : List CacheLine) : (s.setCache ls).ret = s.ret := rfl
@[simp] theorem State.running_setEn (s : State) (c : Chan) (b : Bool) : (s.setEn c b).running = s.running := rfl
@[simp] theorem State.code_setEn (s : State) (c : Chan) (b : Bool) : (s.setEn c b).code = s.code := rfl
@[simp] theorem State.ret_setEn (s : State) (c : Chan) (b : Bool) : (s.setEn c b).ret = s.ret := rfl
@[simp] theorem State.running_install (s : State) (c : Chan) : (s.install c).running = s.running := rfl
@[simp] theorem State.code_install (s : State) (c : Chan) : (s.install c).code = s.code := rfl
@[simp] theorem State.ret_install (s : State) (c : Chan) : (s.install c).ret = s.ret := rfl
@[simp] theorem State.running_buffer (s : State) (a : Addr) (v : Word) : (s.buffer a v).running = s.running := rfl
@[simp] theorem State.code_buffer (s : State) (a : Addr) (v : Word) : (s.buffer a v).code = s.code := rfl
@[simp] theorem State.ret_buffer (s : State) (a : Addr) (v : Word) : (s.buffer a v).ret = s.ret := rfl
@[simp] theorem State.running_spend (s : State) (k : Nat) : (s.spend k).running = s.running := rfl
@[simp] theorem State.code_spend (s : State) (k : Nat) : (s.spend k).code = s.code := rfl
@[simp] theorem State.ret_spend (s : State) (k : Nat) : (s.spend k).ret = s.ret := rfl
@[simp] theorem State.running_softReset (s : State) : (s.softReset).running = s.running := rfl
@[simp] theorem State.code_softReset (s : State) : (s.softReset).code = s.code := rfl
@[simp] theorem State.ret_softReset (s : State) : (s.softReset).ret = s.ret := rfl
@[simp] theorem State.running_logCallback (s : State) (c : Chan) (r : CbResult) : (s.logCallback c r).running = s.running := rfl
@[simp] theorem State.code_logCallback (s : State) (c : Chan) (r : CbResult) : (s.logCallback c r).code = s.code := rfl
@[simp] theorem State.ret_logCallback (s : State) (c : Chan) (r : CbResult) : (s.logCallback c r).ret = s.ret := rfl
@[simp] theorem State.running_takeBody (s : State) : (s.takeBody).running = s.running := rfl
@[simp] theorem State.code_takeBody (s : State) : (s.takeBody).code = s.code := rfl
@[simp] theorem State.ret_takeBody (s : State) : (s.takeBody).ret = s.ret := rfl
@[simp] theorem State.running_nextTurn (s : State) : (s.nextTurn).running = s.running := rfl
@[simp] theorem State.code_nextTurn (s : State) : (s.nextTurn).code = s.code := rfl
@[simp] theorem State.ret_nextTurn (s : State) : (s.nextTurn).ret = s.ret := rfl
@[simp] theorem State.running_evictLine (s : State) (l : CacheLine) : (s.evictLine l).running = s.running := rfl
@[simp] theorem State.code_evictLine (s : State) (l : CacheLine) : (s.evictLine l).code = s.code := rfl
@[simp] theorem State.ret_evictLine (s : State) (l : CacheLine) : (s.evictLine l).ret = s.ret := rfl

/-- Returning pops nothing while the running context has code left (60_exceptions.md R426). -/
theorem State.settle_of_code {s : State} (h : s.code ≠ []) : s.settle = s := by
  obtain ⟨_, _, _, _, _, thread, irqs⟩ := s
  cases irqs with
  | nil => rfl
  | cons i t =>
    have : i.ctx.code.isEmpty = false := by simpa [State.code, State.running] using h
    simp [State.settle, settleIrqs, this]

/-- The thread context is never popped. -/
theorem State.settle_of_thread {s : State} (h : s.irqs = []) : s.settle = s := by
  obtain ⟨_, _, _, _, _, thread, irqs⟩ := s
  subst h
  rfl

/-! The draws (00_scope.md R12). -/

/-- The j-th draw after k are made is the (k + j)-th. -/
theorem State.choice_spend (s : State) (k j : Nat) : (s.spend k).choice j = s.choice (k + j) := by
  unfold State.choice State.spend
  simp only [List.drop_drop, List.length_drop]
  cases h : s.draws.drop (k + j) with
  | cons => rfl
  | nil =>
    simp only
    congr 1
    rw [List.drop_eq_nil_iff] at h
    omega

/-! Outcomes and checks. -/

theorem mapNext_next {f : State → State} {r : Res} {t : State} :
    mapNext f r = .next t ↔ ∃ u, r = .next u ∧ f u = t := by
  cases r <;> simp [mapNext]

/-- A step of an agent happens where it is enabled, and changes nothing where it is not. -/
theorem whenEnabled_next {b : Bool} {s t : State} {r : Res} :
    whenEnabled b s r = .next t ↔ (b = true ∧ r = .next t) ∨ (b = false ∧ s = t) := by
  cases b <;> simp [whenEnabled]

theorem whenConfigured_next {c : Chan} {s t : State} {r : Res} :
    whenConfigured c s r = .next t ↔ (s.ch.get c).configured = true ∧ r = .next t := by
  unfold whenConfigured
  split <;> simp_all

theorem chanOf_some {c : Nat} {ch : Chan} : chanOf c = some ch ↔ c = chanNum ch := by
  unfold chanOf
  split <;> cases ch <;> simp_all [chanNum]

@[simp] theorem chanOf_chanNum (c : Chan) : chanOf (chanNum c) = some c := chanOf_some.2 rfl

/-- An internal procedure goes on only for a channel, on a ready device (43_ring.md R310). -/
theorem withReady_next {c : Nat} {s t : State} {f : Chan → Res} :
    withReady c s f = .next t ↔ ∃ ch, c = chanNum ch ∧ s.ctl = .ready ∧ f ch = .next t := by
  unfold withReady
  split
  · rename_i h
    simp only [reduceCtorEq, false_iff, not_exists, not_and]
    rintro ch rfl
    simp at h
  · rename_i ch h
    rw [chanOf_some] at h
    subst h
    split
    · rename_i hr
      constructor
      · exact fun e => ⟨ch, rfl, hr, e⟩
      · rintro ⟨ch', h1, -, h3⟩
        have : ch = ch' := by cases ch <;> cases ch' <;> simp_all [chanNum]
        exact this ▸ h3
    · simp_all

/-- A framework entry point answers EINVAL for a number that names no channel, and goes on only on a ready device
(44_channel.md R330). -/
theorem withChannel_next {c : Nat} {s t : State} {f : Chan → Res} :
    withChannel c s f = .next t ↔
      (chanOf c = none ∧ s.answer (.code .einval) = t) ∨ ∃ ch, c = chanNum ch ∧ s.ctl = .ready ∧ f ch = .next t := by
  unfold withChannel
  split
  · rename_i h
    simp only [h, true_and, Host.Outcome.next.injEq]
    constructor
    · exact .inl
    · rintro (h1 | ⟨ch, rfl, -⟩)
      · exact h1
      · simp at h
  · rename_i ch h
    have h' := chanOf_some.1 h
    subst h'
    simp only [chanOf_chanNum, reduceCtorEq, false_and, false_or]
    split
    · rename_i hr
      constructor
      · exact fun e => ⟨ch, rfl, hr, e⟩
      · rintro ⟨ch', h1, -, h3⟩
        have : ch = ch' := by cases ch <;> cases ch' <;> simp_all [chanNum]
        exact this ▸ h3
    · simp_all

/-- An operation on a line goes on only for one of the two (41_host_primitives.md R225). -/
theorem onLine_next {l : Nat} {s t : State} {f : Chan → State} :
    onLine l s f = .next t ↔ ∃ o, lineOwner s.cfg l = some o ∧ f o = t := by
  unfold onLine
  split <;> simp_all

/-- An MMIO write goes on only outside a soft reset (40_register_interface.md R181). -/
theorem mmioWrite_busy {s : State} (h : s.rstBusy = true) (c : Chan) (r : Reg) (v : Word) :
    mmioWrite c r v s = .fault (.writeDuringReset (mmioOffset c r)) := by simp [mmioWrite, h]

/-- What a DMACR write can do: a soft reset, or the fields with the threshold written or drawn (R182 to R185). -/
theorem writeDmacr_next {c : Chan} {v : Word} {s t : State} :
    writeDmacr c v s = .next t ↔ v.getLsbD 3 = false ∧ v.getLsbD 4 = false ∧
      ((v.getLsbD 2 = true ∧ s.softReset.answer .unit = t) ∨
       (v.getLsbD 2 = false ∧ thresholdField v = 0 ∧
         ((s.setEng c (writeCr (s.eng.get c) v (drawnThreshold (s.choice 0)))).spend 1).answer .unit = t) ∨
       (v.getLsbD 2 = false ∧ thresholdField v ≠ 0 ∧
         (s.setEng c (writeCr (s.eng.get c) v (thresholdField v))).answer .unit = t)) := by
  unfold writeDmacr
  by_cases h : thresholdField v = 0#8 <;> cases h3 : v.getLsbD 3 <;> cases h4 : v.getLsbD 4 <;>
    cases h2 : v.getLsbD 2 <;> simp [h]

/-- What a CURDESC_LSB write can do (R186). -/
theorem writeCurdescLsb_next {c : Chan} {v : Word} {s t : State} :
    writeCurdescLsb c v s = .next t ↔ (s.eng.get c).phase = .halted ∧ alignedLow v = true ∧
      (s.setEng c { s.eng.get c with
        curdesc := joinPtr (hi32 (s.eng.get c).curdesc) v
        fp := joinPtr (hi32 (s.eng.get c).curdesc) v }).answer .unit = t := by
  unfold writeCurdescLsb setCurdesc
  by_cases h : (s.eng.get c).phase = .halted <;> cases h2 : alignedLow v <;> simp [h]

/-- What a CURDESC_MSB write can do (R186). -/
theorem writeCurdescMsb_next {c : Chan} {v : Word} {s t : State} :
    writeCurdescMsb c v s = .next t ↔ (s.eng.get c).phase = .halted ∧
      (s.setEng c { s.eng.get c with
        curdesc := joinPtr v (lo32 (s.eng.get c).curdesc)
        fp := joinPtr v (lo32 (s.eng.get c).curdesc) }).answer .unit = t := by
  unfold writeCurdescMsb setCurdesc
  by_cases h : (s.eng.get c).phase = .halted <;> simp [h]

/-- What a TAILDESC_LSB write can do (R187). -/
theorem writeTaildescLsb_next {c : Chan} {v : Word} {s t : State} :
    writeTaildescLsb c v s = .next t ↔ alignedLow v = true ∧
      (s.setEng c (tailWritten (s.eng.get c) v)).answer .unit = t := by
  unfold writeTaildescLsb
  cases h : alignedLow v <;> simp

/-! The host's memory path (20_memory.md R106 to R108, R124). -/

/-- A fill changes the cache only. -/
theorem State.fillLine_eq (s : State) (x : Nat) : ∃ ls, s.fillLine x = s.setCache ls := by
  unfold State.fillLine
  split
  · exact ⟨_, rfl⟩
  · exact ⟨s.cache, rfl⟩

theorem State.fillLines_eq (s : State) (xs : List Nat) : ∃ ls, s.fillLines xs = s.setCache ls := by
  induction xs generalizing s with
  | nil => exact ⟨s.cache, rfl⟩
  | cons x xs ih =>
    obtain ⟨ls, h⟩ := s.fillLine_eq x
    obtain ⟨ks, h'⟩ := ih (s.fillLine x)
    exact ⟨ks, by rw [State.fillLines, h', h]; rfl⟩

/-- A load changes the cache and the draws only. -/
theorem State.afterLoad_eq (s : State) (a : Addr) :
    ∃ ls ds n, s.afterLoad a = { s with cache := ls, draws := ds, drawNo := n } := by
  unfold State.afterLoad
  split
  · split
    · obtain ⟨ls, h⟩ := s.fillLines_eq (s.uncachedBytes a)
      exact ⟨ls, _, _, by rw [h]; rfl⟩
    · exact ⟨s.cache, _, _, rfl⟩
  · exact ⟨s.cache, s.draws, s.drawNo, rfl⟩

/-- With no cacheable byte a load changes nothing: in COHERENT mode none is (R125). -/
theorem State.afterLoad_coherent {s : State} (h : s.cfg.cacheMode = .coherent) (a : Addr) : s.afterLoad a = s := by
  have : s.uncachedBytes a = [] := by
    unfold State.uncachedBytes cacheable
    simp [h, List.filter_eq_nil_iff]
  simp [State.afterLoad, this]

/-- A drain changes memory and the cache only. -/
theorem State.drainBytes_eq (s : State) (alloc : Bool) (x : Nat) (bs : List Byte) :
    ∃ m ls, s.drainBytes alloc x bs = { s with mem := m, cache := ls } := by
  induction bs generalizing s x with
  | nil => exact ⟨s.mem, s.cache, rfl⟩
  | cons b bs ih =>
    have h : ∃ m ls, s.drainByte alloc (x % 2 ^ 64) b = { s with mem := m, cache := ls } := by
      unfold State.drainByte
      split
      · split
        · exact ⟨s.mem, _, rfl⟩
        · split
          · exact ⟨s.mem, _, rfl⟩
          · exact ⟨_, s.cache, rfl⟩
      · exact ⟨_, s.cache, rfl⟩
    obtain ⟨m, ls, h⟩ := h
    obtain ⟨m', ls', h'⟩ := ih (s.drainByte alloc (x % 2 ^ 64) b) (x + 1)
    exact ⟨m', ls', by rw [State.drainBytes, h', h]⟩

/-- In COHERENT mode a drain writes memory directly (R107). -/
theorem State.drainBytes_coherent {s : State} (h : s.cfg.cacheMode = .coherent) (alloc : Bool) (x : Nat)
    (bs : List Byte) : s.drainBytes alloc x bs = s.setMem (s.mem.writeBytes x bs) := by
  induction bs generalizing s x with
  | nil => rfl
  | cons b bs ih =>
    have hb : s.drainByte alloc (x % 2 ^ 64) b = s.setMem (s.mem.write (x % 2 ^ 64) b) := by
      simp [State.drainByte, cacheable, h]
    rw [State.drainBytes, hb, ih (by simpa using h)]
    rfl

/-- DC_FLUSH changes memory and the cache only, and nothing in COHERENT mode (41_host_primitives.md R223). -/
theorem State.flush_eq (s : State) (a n : Nat) : ∃ m ls, s.flush a n = { s with mem := m, cache := ls } := by
  unfold State.flush
  split
  · exact ⟨s.mem, s.cache, rfl⟩
  · exact ⟨_, _, rfl⟩

theorem State.flush_coherent {s : State} (h : s.cfg.cacheMode = .coherent) (a n : Nat) : s.flush a n = s := by
  simp [State.flush, h]

/-- DC_INVAL changes the cache only, and nothing in COHERENT mode (R224). -/
theorem State.invalidate_eq (s : State) (a n : Nat) : ∃ ls, s.invalidate a n = s.setCache ls := by
  unfold State.invalidate
  split
  · exact ⟨s.cache, rfl⟩
  · exact ⟨_, rfl⟩

theorem State.invalidate_coherent {s : State} (h : s.cfg.cacheMode = .coherent) (a n : Nat) : s.invalidate a n = s := by
  simp [State.invalidate, h]

/-! The engine's writes (20_memory.md R105). -/

/-- MemWrite stores its bytes where P_BUS accepts them, and otherwise changes nothing. -/
theorem State.memWrite_eq (s : State) (a : Addr) (bs : List Byte) :
    (busResp s.cfg a bs.length true = .okay ∧ s.memWrite a bs = (s.setMem (s.mem.writeBytes a.toNat bs), .okay)) ∨
    (busResp s.cfg a bs.length true ≠ .okay ∧ s.memWrite a bs = (s, busResp s.cfg a bs.length true)) := by
  unfold State.memWrite
  cases h : busResp s.cfg a bs.length true <;> simp

/-- MemWrites change memory alone, and keep its canonical form. -/
theorem State.memWrites_eq (s : State) (ws : List (Addr × List Byte)) :
    ∃ m r, s.memWrites ws = (s.setMem m, r) ∧ (s.mem.wf = true → m.wf = true) := by
  induction ws generalizing s with
  | nil => exact ⟨s.mem, .okay, rfl, id⟩
  | cons w ws ih =>
    obtain ⟨a, bs⟩ := w
    rcases s.memWrite_eq a bs with ⟨-, h⟩ | ⟨hb, h⟩
    · obtain ⟨m, r, hm, hw⟩ := ih (s.setMem (s.mem.writeBytes a.toNat bs))
      exact ⟨m, r, by simp only [State.memWrites, h, hm]; rfl, fun w => hw (Memory.writeBytes_wf w _ _)⟩
    · refine ⟨s.mem, busResp s.cfg a bs.length true, ?_, id⟩
      simp only [State.memWrites, h]
      cases hr : busResp s.cfg a bs.length true
      · exact absurd hr hb
      all_goals rfl

/-! The engine's bookkeeping (42_engine_sequencer.md). -/

@[simp] theorem completionEvent_cr (e : Eng) : (completionEvent e).cr = e.cr := by
  unfold completionEvent
  split <;> rfl

@[simp] theorem completionEvent_curdesc (e : Eng) : (completionEvent e).curdesc = e.curdesc := by
  unfold completionEvent
  split <;> rfl

@[simp] theorem completionEvent_taildesc (e : Eng) : (completionEvent e).taildesc = e.taildesc := by
  unfold completionEvent
  split <;> rfl

@[simp] theorem completionEvent_fp (e : Eng) : (completionEvent e).fp = e.fp := by
  unfold completionEvent
  split <;> rfl

@[simp] theorem completionEvent_phase (e : Eng) : (completionEvent e).phase = e.phase := by
  unfold completionEvent
  split <;> rfl

/-! The program points. -/

/-- A program point acts on the running context, the driver's records, the controller's state and the installed
handlers; everything else stays. -/
theorem runPoint_frame (k : Cont) (s : State) :
    (runPoint k s).cfg = s.cfg ∧ (runPoint k s).eng = s.eng ∧ (runPoint k s).rstBusy = s.rstBusy ∧
    (runPoint k s).gie = s.gie ∧ (runPoint k s).sb = s.sb ∧ (runPoint k s).cache = s.cache ∧
    (runPoint k s).cblog = s.cblog ∧ (runPoint k s).outs = s.outs ∧ (runPoint k s).logs = s.logs ∧
    (runPoint k s).mem = s.mem ∧ (runPoint k s).draws = s.draws ∧ (runPoint k s).drawNo = s.drawNo := by
  cases k with
  | popSts p key ni ctl => simp only [runPoint, popSts]; split <;> simp
  | rcSts c key count d =>
    simp only [runPoint, rcSts]
    split
    · simp
    · split
      · simp
      · cases c <;> simp [rcBuf, rcTail]
  | rcCsum c key count d sts err => cases c <;> simp [runPoint, rcCsum, rcBuf, rcTail]
  | cfgLinked c req =>
    simp only [runPoint, cfgLinked]
    split
    · simp
    · cases req.blocks <;> simp [cfgBlocks]
  | cfgNext c bs =>
    simp only [runPoint, cfgNext]
    split
    · cases bs <;> simp [cfgBlocks]
    · simp
  | initChk i =>
    simp only [runPoint, initChk]
    split
    · simp
    · split <;> simp
  | assign | ret | popSlot | popCtl | popSet | rcKey | rcBufHi | rcBufLo | rcRx | rcNext | startKey | startSr
  | startTail | stopKey | stopCr | statusSr | isrWas | isrSr | cfgKey | cfgDone | initPoll | initReady =>
    simp [runPoint, popSlot, popCtl, popSet, rcHead, rcBufHi, rcBufLo, rcRx, rcTail, rcNext, startKey, startSr,
      startTail, stopKey, stopCr, statusSr, isrWas, isrSr, cfgKey, cfgDone, initPoll, initReady]

end Sys2Proof.Machine
end

