-- ==== Sys2Proof/Laws/PerInstr.lean ====
section
/-! SUPPORT. One lemma per operation: its word carries its class (30_encoding.md R140). -/

namespace Sys2Proof.Laws

/-- The number of a class, w[15:14] (R140). -/
def classBits : OpClass → Nat
  | .mmio => 0
  | .hostp => 1
  | .proc => 2
  | .auto => 3

/-- The word of an operation has its class in w[15:14]. -/
def Class.Statement (i : Instr) : Prop := opClassBits (encodeWord i) = classBits i.opClass

/-- The word, the class and their agreement, each by evaluation. -/
theorem Class.of_word {i : Instr} {w : OpWord} {k : OpClass} (hw : encodeWord i = w) (hk : i.opClass = k)
    (h : opClassBits w = classBits k) : Class.Statement i := by
  subst hw hk
  exact h

theorem Class.rdTxDmacr : Class.Statement .rdTxDmacr :=
  Class.of_word (w := 0x0000) rfl rfl rfl
theorem Class.rdTxDmasr : Class.Statement .rdTxDmasr :=
  Class.of_word (w := 0x0004) rfl rfl rfl
theorem Class.rdTxCurdescLsb : Class.Statement .rdTxCurdescLsb :=
  Class.of_word (w := 0x0008) rfl rfl rfl
theorem Class.rdTxCurdescMsb : Class.Statement .rdTxCurdescMsb :=
  Class.of_word (w := 0x000C) rfl rfl rfl
theorem Class.rdTxTaildescLsb : Class.Statement .rdTxTaildescLsb :=
  Class.of_word (w := 0x0010) rfl rfl rfl
theorem Class.rdTxTaildescMsb : Class.Statement .rdTxTaildescMsb :=
  Class.of_word (w := 0x0014) rfl rfl rfl
theorem Class.rdRxDmacr : Class.Statement .rdRxDmacr :=
  Class.of_word (w := 0x0030) rfl rfl rfl
theorem Class.rdRxDmasr : Class.Statement .rdRxDmasr :=
  Class.of_word (w := 0x0034) rfl rfl rfl
theorem Class.rdRxCurdescLsb : Class.Statement .rdRxCurdescLsb :=
  Class.of_word (w := 0x0038) rfl rfl rfl
theorem Class.rdRxCurdescMsb : Class.Statement .rdRxCurdescMsb :=
  Class.of_word (w := 0x003C) rfl rfl rfl
theorem Class.rdRxTaildescLsb : Class.Statement .rdRxTaildescLsb :=
  Class.of_word (w := 0x0040) rfl rfl rfl
theorem Class.rdRxTaildescMsb : Class.Statement .rdRxTaildescMsb :=
  Class.of_word (w := 0x0044) rfl rfl rfl
theorem Class.wrTxDmacr (v : Word) : Class.Statement (.wrTxDmacr v) :=
  Class.of_word (w := 0x0100) rfl rfl rfl
theorem Class.wrTxDmasr (v : Word) : Class.Statement (.wrTxDmasr v) :=
  Class.of_word (w := 0x0104) rfl rfl rfl
theorem Class.wrTxCurdescLsb (v : Word) : Class.Statement (.wrTxCurdescLsb v) :=
  Class.of_word (w := 0x0108) rfl rfl rfl
theorem Class.wrTxCurdescMsb (v : Word) : Class.Statement (.wrTxCurdescMsb v) :=
  Class.of_word (w := 0x010C) rfl rfl rfl
theorem Class.wrTxTaildescLsb (v : Word) : Class.Statement (.wrTxTaildescLsb v) :=
  Class.of_word (w := 0x0110) rfl rfl rfl
theorem Class.wrTxTaildescMsb (v : Word) : Class.Statement (.wrTxTaildescMsb v) :=
  Class.of_word (w := 0x0114) rfl rfl rfl
theorem Class.wrRxDmacr (v : Word) : Class.Statement (.wrRxDmacr v) :=
  Class.of_word (w := 0x0130) rfl rfl rfl
theorem Class.wrRxDmasr (v : Word) : Class.Statement (.wrRxDmasr v) :=
  Class.of_word (w := 0x0134) rfl rfl rfl
theorem Class.wrRxCurdescLsb (v : Word) : Class.Statement (.wrRxCurdescLsb v) :=
  Class.of_word (w := 0x0138) rfl rfl rfl
theorem Class.wrRxCurdescMsb (v : Word) : Class.Statement (.wrRxCurdescMsb v) :=
  Class.of_word (w := 0x013C) rfl rfl rfl
theorem Class.wrRxTaildescLsb (v : Word) : Class.Statement (.wrRxTaildescLsb v) :=
  Class.of_word (w := 0x0140) rfl rfl rfl
theorem Class.wrRxTaildescMsb (v : Word) : Class.Statement (.wrRxTaildescMsb v) :=
  Class.of_word (w := 0x0144) rfl rfl rfl
theorem Class.ld32 (a : Addr) : Class.Statement (.ld32 a) :=
  Class.of_word (w := 0x4100) rfl rfl rfl
theorem Class.st32 (a : Addr) (v : Word) : Class.Statement (.st32 a v) :=
  Class.of_word (w := 0x4200) rfl rfl rfl
theorem Class.fence : Class.Statement .fence :=
  Class.of_word (w := 0x4300) rfl rfl rfl
theorem Class.dcFlush (a : Addr) (n : Nat) : Class.Statement (.dcFlush a n) :=
  Class.of_word (w := 0x4400) rfl rfl rfl
theorem Class.dcInval (a : Addr) (n : Nat) : Class.Statement (.dcInval a n) :=
  Class.of_word (w := 0x4500) rfl rfl rfl
theorem Class.irqEnable (l : Nat) : Class.Statement (.irqEnable l) :=
  Class.of_word (w := 0x4600) rfl rfl rfl
theorem Class.irqDisable (l : Nat) : Class.Statement (.irqDisable l) :=
  Class.of_word (w := 0x4700) rfl rfl rfl
theorem Class.irqIsEnabled (l : Nat) : Class.Statement (.irqIsEnabled l) :=
  Class.of_word (w := 0x4800) rfl rfl rfl
theorem Class.csEnter (c : Nat) : Class.Statement (.csEnter c) :=
  Class.of_word (w := 0x4900) rfl rfl rfl
theorem Class.csExit (key : Key) : Class.Statement (.csExit key) :=
  Class.of_word (w := 0x4A00) rfl rfl rfl
theorem Class.sleep : Class.Statement .sleep :=
  Class.of_word (w := 0x4B00) rfl rfl rfl
theorem Class.callback (c : Nat) (r : CbResult) : Class.Statement (.callback c r) :=
  Class.of_word (w := 0x4C00) rfl rfl rfl
theorem Class.log (msg : String) : Class.Statement (.log msg) :=
  Class.of_word (w := 0x4D00) rfl rfl rfl
theorem Class.relink (c : Nat) : Class.Statement (.relink c) :=
  Class.of_word (w := 0x8100) rfl rfl rfl
theorem Class.populate (c : Nat) (buf : Addr) (len : Word) (first last : Bool) : Class.Statement (.populate c buf len first last) :=
  Class.of_word (w := 0x8200) rfl rfl rfl
theorem Class.reclaim (c : Nat) : Class.Statement (.reclaim c) :=
  Class.of_word (w := 0x8300) rfl rfl rfl
theorem Class.start (c : Nat) : Class.Statement (.start c) :=
  Class.of_word (w := 0x8400) rfl rfl rfl
theorem Class.stop (c : Nat) : Class.Statement (.stop c) :=
  Class.of_word (w := 0x8500) rfl rfl rfl
theorem Class.getStatus (c : Nat) : Class.Statement (.getStatus c) :=
  Class.of_word (w := 0x8600) rfl rfl rfl
theorem Class.isr (c : Nat) : Class.Statement (.isr c) :=
  Class.of_word (w := 0x8700) rfl rfl rfl
theorem Class.configure (c : Nat) (req : CfgReq) : Class.Statement (.configure c req) :=
  Class.of_word (w := 0x8800) rfl rfl rfl
theorem Class.reload (c : Nat) (src dst : Addr) (size : Word) : Class.Statement (.reload c src dst size) :=
  Class.of_word (w := 0x8900) rfl rfl rfl
theorem Class.chanFilter (c : Nat) (tag : String) : Class.Statement (.chanFilter c tag) :=
  Class.of_word (w := 0x8A00) rfl rfl rfl
theorem Class.init : Class.Statement .init :=
  Class.of_word (w := 0x8B00) rfl rfl rfl
theorem Class.eHalt (c : Chan) : Class.Statement (.eHalt c) := by cases c <;> exact Class.of_word rfl rfl rfl
theorem Class.eFetch (c : Chan) : Class.Statement (.eFetch c) := by cases c <;> exact Class.of_word rfl rfl rfl
theorem Class.eXferTx : Class.Statement .eXferTx :=
  Class.of_word (w := 0xC300) rfl rfl rfl
theorem Class.eXferRx : Class.Statement .eXferRx :=
  Class.of_word (w := 0xC301) rfl rfl rfl
theorem Class.eWb (c : Chan) : Class.Statement (.eWb c) := by cases c <;> exact Class.of_word rfl rfl rfl
theorem Class.eDelay (c : Chan) : Class.Statement (.eDelay c) := by cases c <;> exact Class.of_word rfl rfl rfl
theorem Class.eResetDone : Class.Statement .eResetDone :=
  Class.of_word (w := 0xC600) rfl rfl rfl
theorem Class.envDrain : Class.Statement .envDrain :=
  Class.of_word (w := 0xD000) rfl rfl rfl
theorem Class.envEvict : Class.Statement .envEvict :=
  Class.of_word (w := 0xD100) rfl rfl rfl
theorem Class.envFill : Class.Statement .envFill :=
  Class.of_word (w := 0xD200) rfl rfl rfl
theorem Class.irqTake (c : Chan) : Class.Statement (.irqTake c) := by cases c <;> exact Class.of_word rfl rfl rfl

end Sys2Proof.Laws
end

