-- ==== Sys2Proof/Laws/Run.lean ====
section
/-! SUPPORT. One step of a run in which a chosen agent moves, said once. -/

namespace Sys2Proof.Machine

/-- A turn put first is the one taken, and the run's other turns stay. -/
theorem stepAs_eq {s : State} (hp : paramsValid s.cfg = true) (t : Turn) : stepAs t s = takeTurn t s := by
  have hn : ({ s with turns := t :: s.turns } : State).nextTurn = s := by
    simp [State.nextTurn]
  unfold stepAs step checkedTurn
  rw [if_pos (by simpa using hp), hn]
  rfl

/-- The host's step: the first item of the running context's code. -/
theorem stepAs_host {s : State} {it : Item} {rest : List Item} (hp : paramsValid s.cfg = true)
    (hc : s.code = it :: rest) : stepAs .host s = mapNext State.settle (runItem it (s.setCode rest)) := by
  rw [stepAs_eq hp]
  simp only [takeTurn, hostTurn, hc]

/-- The host's step on an operation of an expansion. -/
theorem stepAs_op {s : State} {i : Instr} {rest : List Item} (hp : paramsValid s.cfg = true)
    (hc : s.code = .op i :: rest) (hi : i.opClass ≠ .auto) :
    stepAs .host s = mapNext State.settle (exec i (s.setCode rest)) := by
  rw [stepAs_host hp hc]
  simp [runItem, runOp, hi]

/-- The host's step on a program point. -/
theorem stepAs_cont {s : State} {k : Cont} {rest : List Item} (hp : paramsValid s.cfg = true)
    (hc : s.code = .cont k :: rest) : stepAs .host s = .next (runPoint k (s.setCode rest)).settle := by
  rw [stepAs_host hp hc]
  rfl

/-- The host's step on Populate's store of CH[c].app0: the ST32 of its value at that step. -/
theorem stepAs_app0Store {s : State} {c : Chan} {a : Addr} {rest : List Item} (hp : paramsValid s.cfg = true)
    (hc : s.code = .app0Store c a :: rest) :
    stepAs .host s = mapNext State.settle (exec (.st32 a (s.ch.get c).app0) (s.setCode rest)) := by
  rw [stepAs_host hp hc]
  rfl

/-- The step of an autonomous agent. -/
theorem stepAs_auto {s : State} {w : OpWord} {i : Instr} (hp : paramsValid s.cfg = true) (hd : decode w {} = .ok i)
    (hi : i.opClass = .auto) : stepAs (.auto w) s = exec i s := by
  rw [stepAs_eq hp]
  simp only [takeTurn, autoTurn, hd, hi, if_true]

theorem bindNext_next {r : Res} {f : State → Res} {t : State} :
    bindNext r f = .next t ↔ ∃ u, r = .next u ∧ f u = .next t := by
  cases r <;> simp [bindNext]

theorem hostRun_succ {s t : State} (h : stepAs .host s = .next t) (n : Nat) : hostRun (n + 1) s = hostRun n t := by
  rw [hostRun, h]
  rfl

theorem quietRun_succ {s t : State} (h : quietStep s = .next t) (n : Nat) : quietRun (n + 1) s = quietRun n t := by
  rw [quietRun, h]
  rfl

/-- A run of autonomous steps begins with exec of its first operation. -/
theorem autoRun_cons {s : State} {i : Instr} {is : List Instr} (hp : paramsValid s.cfg = true)
    (hd : decode (encodeWord i) {} = .ok i) (hi : i.opClass = .auto) :
    autoRun (i :: is) s = bindNext (exec i s) fun t => autoRun is t := by
  rw [autoRun, stepAs_auto hp hd hi]

/-- A run of n + m steps of the host is one of n and then one of m. -/
theorem hostRun_add {s t : State} {n : Nat} (h : hostRun n s = .next t) (m : Nat) :
    hostRun (n + m) s = hostRun m t := by
  induction n generalizing s with
  | zero =>
    simp only [hostRun, Host.Outcome.next.injEq] at h
    rw [h, Nat.zero_add]
  | succ n ih =>
    rw [hostRun, bindNext_next] at h
    obtain ⟨u, hu, h⟩ := h
    rw [show n + 1 + m = n + m + 1 by omega, hostRun_succ hu, ih h]

theorem quietRun_add {s t : State} {n : Nat} (h : quietRun n s = .next t) (m : Nat) :
    quietRun (n + m) s = quietRun m t := by
  induction n generalizing s with
  | zero =>
    simp only [quietRun, Host.Outcome.next.injEq] at h
    rw [h, Nat.zero_add]
  | succ n ih =>
    rw [quietRun, bindNext_next] at h
    obtain ⟨u, hu, h⟩ := h
    rw [show n + 1 + m = n + m + 1 by omega, quietRun_succ hu, ih h]

/-- Where the host does not wait at a FENCE, a quiet run's step is the host's. -/
theorem quietStep_host {s : State} (h : s.waitsAtFence = false) : quietStep s = stepAs .host s := by
  simp [quietStep, h]

theorem waitsAtFence_of_sb {s : State} (h : s.sb = []) : s.waitsAtFence = false := by
  simp [State.waitsAtFence, h]

end Sys2Proof.Machine
end

