-- ==== Sys2Proof/Tests/Slice0.lean ====
section
/-! SUPPORT. Tests: the well-formedness smoke, the words of the tables, one step of each operation on the vectors of
95_test_vectors.md, and a state that meets the hypotheses of each statement. Expected values are the spec's. -/

namespace Sys2Proof.Tests

open Sys2Proof.Machine

set_option Elab.async false

/-! ## Well-formedness: each check refuses an ill-formed operand. -/

theorem test_wf_refuses_channel_2 : (Instr.populate 2 0 0 true true).wf .vectors = false := by decide
theorem test_wf_refuses_line_99 : (Instr.irqEnable 99).wf .vectors = false := by decide
theorem test_wf_refuses_odd_word_address : (Instr.ld32 0x10002).wf .vectors = false := by decide
theorem test_wf_refuses_unaligned_pointer : (Instr.wrTxTaildescLsb 0x10004).wf .vectors = false := by decide
theorem test_wf_refuses_keyhole : (Instr.wrTxDmacr 0x00000008).wf .vectors = false := by decide
theorem test_wf_refuses_cyclic : (Instr.wrRxDmacr 0x00000010).wf .vectors = false := by decide
theorem test_wf_refuses_key_of_no_line : (Instr.csExit (.line 99 true)).wf .vectors = false := by decide
theorem test_wf_accepts :
    (Instr.populate 1 0 0 true true).wf .vectors = true ∧ (Instr.irqEnable 1).wf .vectors = true ∧
    (Instr.st32 0x10018 5).wf .vectors = true ∧ (Instr.wrTxTaildescLsb 0x10040).wf .vectors = true ∧
    (Instr.wrTxDmacr 0x00017001).wf .vectors = true ∧ (Instr.csExit (.line 0 true)).wf .vectors = true := by decide

/-! ## The words of R142 to R145, written out from the tables: class in bits 15:14, then D in bit 8 and OFF, or the number
in bits 13:8, or number and C. -/

theorem test_decode_reads :
    decode 0b0000000000000000 {} = .ok .rdTxDmacr ∧ decode 0b0000000000000100 {} = .ok .rdTxDmasr ∧
    decode 0b0000000000001000 {} = .ok .rdTxCurdescLsb ∧ decode 0b0000000000001100 {} = .ok .rdTxCurdescMsb ∧
    decode 0b0000000000010000 {} = .ok .rdTxTaildescLsb ∧ decode 0b0000000000010100 {} = .ok .rdTxTaildescMsb ∧
    decode 0b0000000000110000 {} = .ok .rdRxDmacr ∧ decode 0b0000000000110100 {} = .ok .rdRxDmasr ∧
    decode 0b0000000000111000 {} = .ok .rdRxCurdescLsb ∧ decode 0b0000000000111100 {} = .ok .rdRxCurdescMsb ∧
    decode 0b0000000001000000 {} = .ok .rdRxTaildescLsb ∧ decode 0b0000000001000100 {} = .ok .rdRxTaildescMsb := by
  and_intros <;> rfl

theorem test_decode_writes :
    decode 0b0000000100000000 { v := 1 } = .ok (.wrTxDmacr 1) ∧ decode 0b0000000100000100 { v := 2 } = .ok (.wrTxDmasr 2) ∧
    decode 0b0000000100001000 { v := 3 } = .ok (.wrTxCurdescLsb 3) ∧
    decode 0b0000000100001100 { v := 4 } = .ok (.wrTxCurdescMsb 4) ∧
    decode 0b0000000100010000 { v := 5 } = .ok (.wrTxTaildescLsb 5) ∧
    decode 0b0000000100010100 { v := 6 } = .ok (.wrTxTaildescMsb 6) ∧
    decode 0b0000000100110000 { v := 7 } = .ok (.wrRxDmacr 7) ∧ decode 0b0000000100110100 { v := 8 } = .ok (.wrRxDmasr 8) ∧
    decode 0b0000000100111000 { v := 9 } = .ok (.wrRxCurdescLsb 9) ∧
    decode 0b0000000100111100 { v := 10 } = .ok (.wrRxCurdescMsb 10) ∧
    decode 0b0000000101000000 { v := 11 } = .ok (.wrRxTaildescLsb 11) ∧
    decode 0b0000000101000100 { v := 12 } = .ok (.wrRxTaildescMsb 12) := by
  and_intros <;> rfl

theorem test_decode_primitives :
    decode 0b0100000100000000 { a := 8 } = .ok (.ld32 8) ∧ decode 0b0100001000000000 { a := 8, v := 9 } = .ok (.st32 8 9) ∧
    decode 0b0100001100000000 {} = .ok .fence ∧ decode 0b0100010000000000 { a := 8, n := 3 } = .ok (.dcFlush 8 3) ∧
    decode 0b0100010100000000 { a := 8, n := 3 } = .ok (.dcInval 8 3) ∧
    decode 0b0100011000000000 { l := 5 } = .ok (.irqEnable 5) ∧ decode 0b0100011100000000 { l := 5 } = .ok (.irqDisable 5) ∧
    decode 0b0100100000000000 { l := 5 } = .ok (.irqIsEnabled 5) ∧ decode 0b0100100100000000 { c := 1 } = .ok (.csEnter 1) ∧
    decode 0b0100101000000000 { key := .line 5 true } = .ok (.csExit (.line 5 true)) ∧
    decode 0b0100101100000000 {} = .ok .sleep ∧
    decode 0b0100110000000000 { c := 1, r := .fault } = .ok (.callback 1 .fault) ∧
    decode 0b0100110100000000 { msg := "x" } = .ok (.log "x") := by
  and_intros <;> rfl

/-- A configuration request with two blocks (V180). -/
def reqTx : CfgReq := ⟨.memToPeriph, .increment, .noChange, [⟨0x20000, 0, 100⟩, ⟨0x20100, 0, 200⟩], 0, some 7, 9⟩

theorem test_decode_procedures :
    decode 0b1000000100000000 { c := 1 } = .ok (.relink 1) ∧
    decode 0b1000001000000000 { c := 1, a := 0x30000, len := 0x800, first := true, last := false } =
      .ok (.populate 1 0x30000 0x800 true false) ∧
    decode 0b1000001100000000 { c := 1 } = .ok (.reclaim 1) ∧ decode 0b1000010000000000 { c := 1 } = .ok (.start 1) ∧
    decode 0b1000010100000000 { c := 1 } = .ok (.stop 1) ∧ decode 0b1000011000000000 { c := 1 } = .ok (.getStatus 1) ∧
    decode 0b1000011100000000 { c := 1 } = .ok (.isr 1) ∧
    decode 0b1000100000000000 { c := 1, req := reqTx } = .ok (.configure 1 reqTx) ∧
    decode 0b1000100100000000 { c := 1, src := 1, dst := 2, len := 3 } = .ok (.reload 1 1 2 3) ∧
    decode 0b1000101000000000 { c := 1, tag := "rx" } = .ok (.chanFilter 1 "rx") ∧
    decode 0b1000101100000000 {} = .ok .init := by
  and_intros <;> rfl

theorem test_decode_steps :
    decode 0b1100000100000000 {} = .ok (.eHalt .tx) ∧ decode 0b1100000100000001 {} = .ok (.eHalt .rx) ∧
    decode 0b1100001000000000 {} = .ok (.eFetch .tx) ∧ decode 0b1100001000000001 {} = .ok (.eFetch .rx) ∧
    decode 0b1100001100000000 {} = .ok .eXferTx ∧ decode 0b1100001100000001 {} = .ok .eXferRx ∧
    decode 0b1100010000000000 {} = .ok (.eWb .tx) ∧ decode 0b1100010000000001 {} = .ok (.eWb .rx) ∧
    decode 0b1100010100000000 {} = .ok (.eDelay .tx) ∧ decode 0b1100010100000001 {} = .ok (.eDelay .rx) ∧
    decode 0b1100011000000000 {} = .ok .eResetDone ∧ decode 0b1101000000000000 {} = .ok .envDrain ∧
    decode 0b1101000100000000 {} = .ok .envEvict ∧ decode 0b1101001000000000 {} = .ok .envFill ∧
    decode 0b1101001100000000 {} = .ok (.irqTake .tx) ∧ decode 0b1101001100000001 {} = .ok (.irqTake .rx) := by
  and_intros <;> rfl

/-- V4 to V10. -/
theorem test_decode_refuses :
    decode 0x0018 {} = .error (.unmappedRegister 0x18) ∧ decode 0x0048 {} = .error (.unmappedRegister 0x48) ∧
    decode 0x0002 {} = .error (.badRegisterAccess 0x02) ∧ decode 0x0200 {} = .error (.illegalOp 0x0200) ∧
    decode 0x4E00 {} = .error (.illegalOp 0x4E00) ∧ decode 0x4101 {} = .error (.illegalOp 0x4101) ∧
    decode 0x8000 {} = .error (.illegalOp 0x8000) ∧ decode 0xC601 {} = .error (.illegalOp 0xC601) ∧
    decode 0xC700 {} = .error (.illegalOp 0xC700) ∧ decode 0xC202 {} = .error (.illegalOp 0xC202) := by
  and_intros <;> rfl

theorem test_table_word : decodeTableWord 16 0xD301 = some (.irqTake .rx) ∧ decodeTableWord 16 0xC601 = none := by decide

/-! ## States and outcomes. -/

/-- A field of the next state, if there is one. -/
def after {α : Type} (r : Res) (f : State → α) : Option α :=
  match r with
  | .next t => some (f t)
  | .fault _ => none
  | .refused _ => none

/-- The fault, if there is one. -/
def faultOf (r : Res) : Option Fault :=
  match r with
  | .fault e => some e
  | .next _ => none
  | .refused _ => none

/-- S_READY, with zeros for the draws. -/
def sReady : State :=
  { State.reset with ctl := .ready, lines := ⟨⟨true, true⟩, ⟨true, true⟩⟩, draws := [0, 0, 0, 0, 0] }

/-- The link words of the TX ring in S_TX0. -/
def linkedTx : Memory :=
  [(0x10000, 0x40), (0x10002, 0x01), (0x10040, 0x80), (0x10042, 0x01), (0x10080, 0xC0), (0x10082, 0x01), (0x100C2, 0x01)]

/-- S_BOTH, the RX ring not linked: both channels configured, callback 7 with user data 9. -/
def sBoth : State :=
  { sReady with
    eng := ⟨{ Eng.boot with curdesc := 0x10000, fp := 0x10000 }, { Eng.boot with curdesc := 0x11000, fp := 0x11000 }⟩
    ch := ⟨{ Record.boot .vectors .tx with pop := 3, cb := some 7, ud := 9, configured := true },
           { Record.boot .vectors .rx with pop := 3, cb := some 7, ud := 9, configured := true }⟩
    mem := linkedTx }

/-- S_BOTH with the engine of a channel changed. -/
def withEng (c : Chan) (f : Eng → Eng) : State := sBoth.setEng c (f (sBoth.eng.get c))

/-- Running with CR_START in a phase. -/
def running (ph : Phase) (e : Eng) : Eng := { e with cr := ⟨true, true, true, true, 1, 0⟩, phase := ph }

/-- The descriptor d_0 of TX as fetched: 100 bytes at 0x20000, SOF (V90). -/
def snapTx : Snap := ⟨0x10000, 0x10040, 0, 0x20000, 0, 0, 0, 0x08000064, 0, App.zero⟩

/-- The descriptor d_0 of RX as fetched: 0x800 bytes at 0x30000 (V110). -/
def snapRx : Snap := ⟨0x11000, 0x11040, 0, 0x30000, 0, 0, 0, 0x0C000800, 0, App.zero⟩

/-- TX in FETCH on d_0, populated as in V90. -/
def sFetch : State :=
  { withEng .tx fun e => { running .fetch e with taildesc := 0x10000 } with
    mem := (linkedTx.writeBytes 0x1000A [0x02]).writeBytes 0x10018 [0x64, 0x00, 0x00, 0x08] }

/-- TX in XFER on d_0 (V91). -/
def sXferTx : State :=
  withEng .tx fun e => { running .xfer e with snap := snapTx, taildesc := 0x10000 }

/-- TX in WB on d_0 with a response (V92, V96). -/
def sWbTx (r : XResp) (n : BitVec 26) : State :=
  withEng .tx fun e => { running .wb e with snap := snapTx, taildesc := 0x10000, xres := ⟨n, r, false, false, App.zero⟩ }

/-- RX in XFER on d_0, with the draws n = 2, eof, sof, data 0xBBAA, app 0 (V110). -/
def sXferRx : State :=
  { withEng .rx fun e => { running .xfer e with snap := snapRx, taildesc := 0x11000 } with draws := [2, 1, 1, 0xBBAA, 0] }

/-- RX in WB after 60 bytes with APP2 = 0x100 (V110). -/
def sWbRx : State :=
  withEng .rx fun e => { running .wb e with
    snap := snapRx, taildesc := 0x11000, xres := ⟨60, .okay, true, true, ⟨0, 0, 0x100, 0, 0⟩⟩ }

/-- NONCOHERENT, with cached lines at 0x20000 (dirty) and 0x20040 (clean) (V69, V70). -/
def sCached : State :=
  { sBoth with
    cfg := { Params.vectors with cacheMode := .noncoherent }
    cache := [⟨0x20000, List.replicate 64 0x5A, true⟩, ⟨0x20040, List.replicate 64 0, false⟩] }

/-- Params of another critical-section mode. -/
def withMode (m : CsMode) (s : State) : State := { s with cfg := { s.cfg with csMode := m } }

/-! ## One step of each operation. -/

/-- V30, V31, V32 and their neighbours, with draws of 0 and of all ones. -/
theorem test_reads :
    after (exec .rdTxDmasr sReady) State.ret = some (.word 0x00010009) ∧
    after (exec .rdTxDmasr { sReady with draws := [0xFFFFFFFF] }) State.ret = some (.word 0xFF01888F) ∧
    after (exec .rdRxDmacr sReady) State.ret = some (.word 0x00010000) ∧
    after (exec .rdTxDmacr (withEng .tx (running .fetch))) State.ret = some (.word 0x00017001) ∧
    after (exec .rdRxDmasr (withEng .rx (running .idle))) State.ret = some (.word 0x0001000A) ∧
    after (exec .rdTxCurdescLsb sBoth) State.ret = some (.word 0x00010000) ∧
    after (exec .rdTxCurdescMsb (withEng .tx fun e => { e with curdesc := 0x200010000 })) State.ret = some (.word 2) ∧
    after (exec .rdTxTaildescLsb (withEng .tx fun e => { e with taildesc := 0x300010040 })) State.ret =
      some (.word 0x10040) ∧
    after (exec .rdTxTaildescMsb (withEng .tx fun e => { e with taildesc := 0x300010040 })) State.ret = some (.word 3) := by
  decide +kernel

theorem test_reads_rx :
    after (exec .rdRxCurdescLsb sBoth) State.ret = some (.word 0x00011000) ∧
    after (exec .rdRxCurdescMsb (withEng .rx fun e => { e with curdesc := 0x400011000 })) State.ret = some (.word 4) ∧
    after (exec .rdRxTaildescLsb (withEng .rx fun e => { e with taildesc := 0x500011040 })) State.ret =
      some (.word 0x11040) ∧
    after (exec .rdRxTaildescMsb (withEng .rx fun e => { e with taildesc := 0x500011040 })) State.ret = some (.word 5) := by
  decide +kernel

/-- V33, V35: a reset write, and a write while it is in progress. -/
theorem test_reset_write :
    after (exec (.wrRxDmacr 4) sXferTx) (fun t => (t.rstBusy, t.eng.tx.phase, t.eng.tx.curdesc, t.eng.rx.fp)) =
      some (true, .halted, 0, 0) ∧
    faultOf (exec (.wrRxDmasr 0x1000) { sReady with rstBusy := true }) = some (.writeDuringReset 0x34) := by decide +kernel

/-- V37, V40, V41, V42. -/
theorem test_dmacr_write :
    after (exec (.wrTxDmacr 0x00017001) sReady) (fun t => (t.eng.tx.cr, t.eng.tx.phase)) =
      some (⟨true, true, true, true, 1, 0⟩, .idle) ∧
    after (exec (.wrTxDmacr 0x00000001) { sReady with draws := [6] }) (fun t => (t.eng.tx.cr.irqThreshold, t.eng.tx.cnt)) =
      some (7, 7) ∧
    after (exec (.wrTxDmacr 0x00047001) sReady) (fun t => (t.eng.tx.cr.irqThreshold, t.eng.tx.cnt)) = some (4, 4) ∧
    after (exec (.wrRxDmacr 0x00047001) (withEng .rx fun e => { e with cr := ⟨true, false, false, false, 4, 0⟩, cnt := 2 }))
      (fun t => t.eng.rx.cnt) = some 2 := by decide +kernel

/-- V38, V39. -/
theorem test_dmacr_excluded_modes :
    faultOf (exec (.wrTxDmacr 8) sReady) = some (.unmodelledMode .tx 8) ∧
    faultOf (exec (.wrRxDmacr 16) sReady) = some (.unmodelledMode .rx 16) := by decide +kernel

/-- V53, V54, V55. -/
theorem test_dmasr_write :
    after (exec (.wrTxDmasr 0x3000) (withEng .tx fun e =>
      { e with sr := ⟨true, false, false, false, false, false, true, true, true⟩ })) (fun t => t.eng.tx.sr) =
      some ⟨true, false, false, false, false, false, false, false, true⟩ ∧
    after (exec (.wrRxDmasr 0xFFF) (withEng .rx fun e => { e with sr := { e.sr with iocIrq := true } }))
      (fun t => t.eng.rx.sr.iocIrq) = some true := by decide +kernel

/-- V43, V44, V45. -/
theorem test_curdesc_write :
    faultOf (exec (.wrTxCurdescLsb 0x10040) (withEng .tx (running .idle))) = some (.curdescWhileRunning .tx) ∧
    faultOf (exec (.wrTxCurdescLsb 0x10020) sBoth) = some (.misalignedDescriptorPointer .tx 0x10020) ∧
    after (exec (.wrTxCurdescLsb 0x10080) sBoth) (fun t => (t.eng.tx.curdesc, t.eng.tx.fp)) = some (0x10080, 0x10080) ∧
    after (exec (.wrTxCurdescMsb 1) sBoth) (fun t => t.eng.tx.fp) = some 0x100010000 ∧
    after (exec (.wrRxCurdescLsb 0x11080) sBoth) (fun t => t.eng.rx.fp) = some 0x11080 ∧
    faultOf (exec (.wrRxCurdescMsb 1) (withEng .rx (running .fetch))) = some (.curdescWhileRunning .rx) := by decide +kernel

/-- V46, V48, V50, V52. -/
theorem test_taildesc_write :
    after (exec (.wrTxTaildescLsb 0x10040) sBoth) (fun t => (t.eng.tx.taildesc, t.eng.tx.phase)) = some (0x10040, .halted) ∧
    after (exec (.wrTxTaildescMsb 0) (withEng .tx (running .idle))) (fun t => t.eng.tx.phase) = some .idle ∧
    after (exec (.wrTxTaildescLsb 0) (withEng .tx (running .idle))) (fun t => t.eng.tx.phase) = some .fetch ∧
    faultOf (exec (.wrTxTaildescLsb 0x10004) sBoth) = some (.misalignedDescriptorPointer .tx 0x10004) ∧
    after (exec (.wrRxTaildescLsb 0x11040) (withEng .rx (running .xfer))) (fun t => t.eng.rx.phase) = some .xfer ∧
    after (exec (.wrRxTaildescMsb 2) sBoth) (fun t => t.eng.rx.taildesc) = some 0x200000000 := by decide +kernel

/-- V60, V61, V66, V67. -/
theorem test_load_store :
    after (exec (.st32 0x10018 0x08000064) sBoth) (fun t => (t.sb, t.mem == sBoth.mem)) =
      some ([⟨0x10018, 0x08000064⟩], true) ∧
    after (exec (.ld32 0x10018) { sBoth with sb := [⟨0x10018, 1⟩, ⟨0x10018, 0x08000064⟩] }) State.ret =
      some (.word 0x08000064) ∧
    after (exec (.ld32 0x10000) sBoth) State.ret = some (.word 0x00010040) ∧
    faultOf (exec (.st32 0x10002 0) sBoth) = some (.misalignedHostAccess 0x10002) ∧
    faultOf (exec (.ld32 0xF0000000) sBoth) = some (.hostBusError 0xF0000000) := by decide +kernel

/-- V63: the wait, and the end of it. -/
theorem test_fence :
    after (exec .fence { sBoth with sb := [⟨0x10018, 1⟩] }) State.code = some [.op .fence] ∧
    after (exec .fence sBoth) State.code = some [] := by decide +kernel

/-- V69, V70: the dirty line is written back and cleaned; the line that meets the range is dropped. -/
theorem test_maintenance :
    after (exec (.dcFlush 0x20000 1) sCached) (fun t => (t.mem.read 0x2003F, t.cache.map (·.dirty))) =
      some (0x5A, [false, false]) ∧
    after (exec (.dcInval 0x20010 16) sCached) (fun t => (t.mem.read 0x20010, t.cache.map (·.base))) =
      some (0, [0x20040]) := by decide +kernel

/-- V75, V76. -/
theorem test_lines :
    after (exec (.irqIsEnabled 0) State.reset) State.ret = some (.bool false) ∧
    after (exec (.irqEnable 1) State.reset) (fun t => (t.lines.tx.en, t.lines.rx.en)) = some (false, true) ∧
    after (exec (.irqDisable 0) sReady) (fun t => (t.lines.tx.en, t.lines.rx.en)) = some (false, true) ∧
    faultOf (exec (.irqEnable 99) sReady) = some .badConfiguration := by decide +kernel

/-- V71, V73, V74. -/
theorem test_critical_section :
    after (exec (.csEnter 0) sReady) (fun t => (t.ret, t.lines.tx.en, t.lines.rx.en)) =
      some (.key (.line 0 true), false, true) ∧
    after (exec (.csEnter 1) (withMode .global sReady)) (fun t => (t.ret, t.gie)) = some (.key (.global true), false) ∧
    after (exec (.csEnter 0) (withMode .bothLines sReady)) (fun t => (t.ret, t.lines.rx.en)) =
      some (.key (.both true true), false) ∧
    after (exec (.csExit (.both true false)) sReady) (fun t => (t.lines.tx.en, t.lines.rx.en)) = some (true, false) ∧
    after (exec (.csExit (.line 0 false)) sReady) (fun t => t.lines.tx.en) = some false := by decide +kernel

/-- V77, V78, V79. -/
theorem test_sleep_log_callback :
    after (exec .sleep sBoth) (fun t => t == sBoth) = some true ∧
    after (exec (.log "x") sBoth) (fun t => t.logs) = some ["x"] ∧
    after (exec (.callback 0 .ok) { sBoth with bodies := [[.start 0, .sleep]] }) (fun t => (t.cblog, t.code)) =
      some ([⟨.tx, 9, .ok⟩], [.op (.start 0)]) := by decide +kernel

/-- R301: the APP0 store takes the value CH[c].app0 has when it runs. -/
theorem test_app0_store :
    after (stepAs .host { sBoth with
        ch := sBoth.ch.set .tx { sBoth.ch.tx with app0 := 2 }, thread := ⟨[.app0Store .tx 0x10020], [], .unit⟩ })
      (fun t => (t.sb, t.code)) = some ([⟨0x10020, 2⟩], []) := by decide +kernel

/-- V125 to V127, V143 to V146: the checks at entry. -/
theorem test_procedure_checks :
    faultOf (exec (.populate 0 0x20000 16 true true) sReady) = some (.unconfiguredChannel .tx) ∧
    faultOf (exec (.populate 0 0x20000 16 true true) State.reset) = some .deviceUnusable ∧
    faultOf (exec (.populate 2 0x20000 16 true true) sBoth) = some .badConfiguration ∧
    after (exec (.start 2) State.reset) State.ret = some (.code .einval) ∧
    faultOf (exec (.start 0) State.reset) = some .deviceUnusable ∧
    faultOf (exec (.start 1) sReady) = some (.unconfiguredChannel .rx) ∧
    after (exec (.getStatus 5) sReady) State.ret = some (.code .einval) ∧
    after (exec (.reload 4 0 0 16) sReady) State.ret = some (.code .einval) := by decide +kernel

/-- R300's example: the first two and the last two of the eight stores. -/
theorem test_relink :
    after (exec (.relink 0) sReady) (fun t => (t.code.take 2, (t.code.drop 6).take 3)) =
      some ([.op (.st32 0x10000 0x10040), .op (.st32 0x10004 0)],
        [.op (.st32 0x100C0 0x10000), .op (.st32 0x100C4 0), .op .fence]) := by decide +kernel

/-- R301, R302, R330, R331, R332, R350: the first operation of each expansion. -/
theorem test_expansions :
    after (exec (.populate 1 0x30000 16 true true) sBoth) (fun t => t.code.head?) = some (some (.op (.csEnter 1))) ∧
    after (exec (.reclaim 0) sBoth) (fun t => t.code.head?) = some (some (.op (.csEnter 0))) ∧
    after (exec (.start 0) sBoth) (fun t => t.code.head?) = some (some (.op (.csEnter 0))) ∧
    after (exec (.stop 1) sReady) (fun t => t.code.head?) = some (some (.op (.csEnter 1))) ∧
    after (exec (.getStatus 0) sReady) (fun t => t.code.head?) = some (some (.op .rdTxDmasr)) ∧
    after (exec (.isr 1) sReady) (fun t => t.code.head?) = some (some (.op (.irqIsEnabled 1))) ∧
    after (exec (.reload 1 0x20400 0x30400 64) sBoth) (fun t => t.code.head?) =
      some (some (.op (.populate 1 0x30400 64 true true))) := by decide +kernel

/-- V180 to V184. -/
theorem test_configure :
    after (exec (.configure 0 reqTx) sReady) (fun t => t.code.head?) = some (some (.op (.csEnter 0))) ∧
    after (exec (.configure 0 { reqTx with srcAdj := .decrement }) sReady) State.ret = some (.code .enotsup) ∧
    after (exec (.configure 1 reqTx) sReady) State.ret = some (.code .enotsup) ∧
    after (exec (.configure 3 reqTx) State.reset) State.ret = some (.code .einval) ∧
    faultOf (exec (.configure 0 reqTx) State.reset) = some .deviceUnusable := by decide +kernel

/-- V196, V200, V205, V206. -/
theorem test_filter_and_init :
    after (exec (.chanFilter 0 "tx") State.reset) State.ret = some (.bool true) ∧
    after (exec (.chanFilter 1 "RX") State.reset) State.ret = some (.bool false) ∧
    after (exec .init State.reset) (fun t => t.code.head?) = some (some (.op (.wrTxDmacr 4))) ∧
    faultOf (exec .init sReady) = some .reInit ∧
    after (exec .init { State.reset with cfg := { Params.vectors with channels := 3 } }) (fun t => (t.ret, t.ctl)) =
      some (.code .einval, .failed) := by decide +kernel

/-- V90, V93, V94, V95. -/
theorem test_fetch :
    after (exec (.eFetch .tx) sFetch) (fun t => (t.eng.tx.phase, t.eng.tx.snap)) = some (.xfer, snapTx) ∧
    after (exec (.eFetch .tx) { sFetch with mem := sFetch.mem.writeBytes 0x1001C [0x10, 0, 0, 0x80] })
      (fun t => (t.eng.tx.sr.sgIntErr, t.eng.tx.sr.errIrq, t.eng.tx.cr.rs, t.eng.tx.phase)) =
      some (true, true, false, .halted) ∧
    after (exec (.eFetch .tx) { sFetch with mem := linkedTx }) (fun t => (t.eng.tx.phase, t.eng.tx.xres.resp)) =
      some (.wb, .interr) ∧
    after (exec (.eFetch .rx) (withEng .rx fun e => { running .fetch e with fp := 0xF0000000 }))
      (fun t => (t.eng.rx.curdesc, t.eng.rx.sr.sgDecErr, t.eng.rx.phase)) = some (0xF0000000, true, .halted) := by
  decide +kernel

/-- V91, V96. -/
theorem test_xfer_tx :
    after (exec .eXferTx { sXferTx with mem := sXferTx.mem.writeBytes 0x20000 [0, 1, 2] })
      (fun t => t.outs.map fun o => (o.bytes.take 3, o.bytes.length, o.sof, o.eof)) =
      some [([0#8, 1#8, 2#8], 100, true, false)] ∧
    after (exec .eXferTx (sXferTx.setEng .tx { sXferTx.eng.tx with snap := { snapTx with buf := 0xF0000000 } }))
      (fun t => (t.outs.length, t.eng.tx.phase, t.eng.tx.xres)) = some (0, .wb, ⟨0, .decerr, false, false, App.zero⟩) := by
  decide +kernel

/-- V110, V111: a short leg ends its frame whatever the draw; a full one does not. -/
theorem test_xfer_rx :
    after (exec .eXferRx sXferRx) (fun t => (t.mem.readBytes 0x30000 3, t.eng.rx.xres, t.eng.rx.phase)) =
      some ([0xAA, 0xBB, 0], ⟨2, .okay, true, true, App.zero⟩, .wb) ∧
    after (exec .eXferRx { sXferRx with draws := [0x801 + 60, 0, 1, 0, 0] }) (fun t => t.eng.rx.xres) =
      some ⟨60, .okay, true, true, App.zero⟩ := by decide +kernel

/-- V92, V96. -/
theorem test_writeback_tx :
    after (exec (.eWb .tx) (sWbTx .okay 100))
      (fun t => (t.mem.readWord 0x1001C, t.eng.tx.fp, t.eng.tx.sr.iocIrq, t.eng.tx.phase)) =
      some (0x80000064, 0x10040, true, .idle) ∧
    after (exec (.eWb .tx) (sWbTx .decerr 0))
      (fun t => (t.mem.readWord 0x1001C, t.eng.tx.sr, t.eng.tx.cr.rs, t.eng.tx.phase)) =
      some (0xC0000000, ⟨false, false, true, false, false, false, true, false, true⟩, false, .halted) := by decide +kernel

/-- V110; V101's misaligned next pointer. -/
theorem test_writeback_rx :
    after (exec (.eWb .rx) sWbRx) (fun t => (t.mem.readWord 0x1101C, t.mem.readWord 0x11028, t.eng.rx.phase)) =
      some (0x8C00003C, 0x100, .idle) ∧
    faultOf (exec (.eWb .rx) (sWbRx.setEng .rx { sWbRx.eng.rx with snap := { snapRx with nxtdesc := 0x11044 } })) =
      some (.misalignedDescriptorPointer .rx 0x11044) := by decide +kernel

/-- V102, V104, V36. -/
theorem test_halt_delay_reset_done :
    after (exec (.eHalt .tx) (withEng .tx fun e => { e with phase := .idle })) (fun t => t.eng.tx.phase) = some .halted ∧
    after (exec (.eDelay .rx) (withEng .rx fun e =>
      { e with cr := ⟨true, true, true, true, 4, 10⟩, cnt := 3, armed := true }))
      (fun t => (t.eng.rx.sr.dlyIrq, t.eng.rx.cnt, t.eng.rx.armed)) = some (true, 4, false) ∧
    after (exec .eResetDone { sBoth with rstBusy := true }) (fun t => t.rstBusy) = some false := by decide +kernel

/-- V64, V65: the draw picks the word, and the oldest store of a word drains first. -/
theorem test_drain :
    after (exec .envDrain { sBoth with sb := [⟨0x20000, 1⟩, ⟨0x20004, 2⟩], draws := [1] })
      (fun t => (t.sb, t.mem.readWord 0x20004)) = some ([⟨0x20000, 1⟩], 2) ∧
    after (exec .envDrain { sBoth with sb := [⟨0x20000, 1⟩, ⟨0x20000, 2⟩] }) (fun t => (t.sb, t.mem.readWord 0x20000)) =
      some ([⟨0x20000, 2⟩], 1) := by decide +kernel

/-- R124: a dirty line leaves through memory; a line is filled clean. -/
theorem test_evict_fill :
    after (exec .envEvict sCached) (fun t => (t.mem.read 0x20000, t.cache.map (·.base))) = some (0x5A, [0x20040]) ∧
    after (exec .envFill { sCached with draws := [0x2008F] }) (fun t => t.cache.map fun l => (l.base, l.dirty)) =
      some [(0x20000, true), (0x20040, false), (0x20080, false)] := by decide +kernel

/-- TX with a completion pending and enabled. -/
def sIrq : State := withEng .tx fun e => { running .idle e with sr := { e.sr with iocIrq := true } }

/-- V160, V165, V169. -/
theorem test_irq_take :
    after (exec (.irqTake .tx) sIrq) (fun t => t.irqs) = some [⟨.tx, 0, ⟨[.op (.isr 0)], [], .unit⟩⟩] ∧
    after (exec (.irqTake .tx) (sIrq.setEn .tx false)) (fun t => t.irqs.length) = some 0 ∧
    after (exec (.irqTake .tx) { sIrq with irqs := [⟨.tx, 0, ⟨[.op .sleep], [], .unit⟩⟩] }) (fun t => t.irqs.length) =
      some 1 := by decide +kernel

/-- A program line of R170: a tD takes the result, and a later line reads it as an operand. -/
theorem test_program_lines :
    after (stepAs .host { sBoth with thread := ⟨[.line { word := 0x4100, args := { a := 0x10000 }, dst := some 0 }], [], .unit⟩ })
      (fun t => (t.ret, t.code)) = some (.word 0x10040, [.cont (.assign (some 0) none)]) ∧
    after (stepAs .host { sBoth with thread := ⟨[.line { word := 0x4200, args := { a := 0x20000 }, vFrom := some 0 }],
      [(0, .word 5)], .unit⟩ }) (fun t => t.sb) = some [⟨0x20000, 5⟩] := by decide +kernel

/-- `status t3, t4, 1` while RX is in FETCH (V149): t3 takes the code, t4 the busy flag. -/
def sStatusLine : State :=
  { withEng .rx (running .fetch) with
    thread := ⟨[.line { word := 0x8600, args := { c := 1 }, dst := some 3, dst2 := some 4 }], [(3, .unit)], .unit⟩ }

theorem test_status_line :
    after (hostRun 4 sStatusLine) (fun t => (t.code, lookupVal t.running.vals 3, lookupVal t.running.vals 4)) =
      some ([], some (.code .ok), some (.bool true)) ∧
    after (hostRun 2 { sStatusLine with
        thread := ⟨[.line { word := 0x8600, args := { c := 5 }, dst := some 3, dst2 := some 4 }], [], .unit⟩ })
      (fun t => (t.code, lookupVal t.running.vals 3, lookupVal t.running.vals 4)) =
      some ([], some (.code .einval), none) := by decide +kernel

/-! ## For each statement with hypotheses, states and operands that meet them. -/

theorem next_with {α : Type} {r : Res} {f : State → α} {v : α} (h : after r f = some v) : ∃ t, r = .next t ∧ f t = v := by
  cases r with
  | next t => exact ⟨t, rfl, Option.some.inj h⟩
  | fault e => cases h
  | refused e => cases h

/-- The invariant, as one computation. -/
def invCheck (s : State) : Bool :=
  s.mem.wf && (s.eng.tx.ptrsAligned && s.eng.rx.ptrsAligned) && (s.eng.tx.countsLegal && s.eng.rx.countsLegal)
    && (!s.rstBusy || (s.eng.tx.quiet && s.eng.rx.quiet))
    && (recordLegal s.cfg .tx s.ch.tx && recordLegal s.cfg .rx s.ch.rx)
    && (codeLegal s.cfg s.thread.code && s.irqs.all fun i => codeLegal s.cfg i.ctx.code) && irqsLegal s.cfg s.irqs
    && s.sb.all (fun e => aligned4 e.addr) && cacheLegal s.cfg s.cache

theorem inv_of_check {s : State} (h : invCheck s = true) : Inv s := by
  simp only [invCheck, Bool.and_eq_true] at h
  obtain ⟨⟨⟨⟨⟨⟨⟨⟨h1, h2⟩, h3⟩, h4⟩, h5⟩, hp⟩, h6⟩, h7⟩, h8⟩ := h
  refine ⟨h1, fun c => ?_, fun c => ?_, fun hb c => ?_, fun c => ?_, hp, h6, h7, h8⟩
  · cases c <;> simp [Pair.get, h2]
  · cases c <;> simp [Pair.get, h3]
  · simp only [hb, Bool.not_true, Bool.false_or, Bool.and_eq_true] at h4
    cases c <;> simp [Pair.get, h4]
  · cases c <;> simp [Pair.get, h5]

/-- S_BOTH with the thread about to run an operation. -/
def about (i : Instr) : State := { sBoth with thread := ⟨[.op i], [], .unit⟩ }

theorem aboutTo_of {s : State} {i : Instr} (h : paramsValid s.cfg = true) (hc : s.code = [.op i]) (hi : s.irqs = []) :
    AboutTo s i [] := ⟨h, hc, .inl hi⟩

theorem about_inv (i : Instr) : AboutTo (about i) i [] ∧ Inv (about i) ∧ (about i).ctl = .ready ∧
    (about i).cfg.cacheMode = .coherent ∧ (about i).sb = [] ∧ (about i).rstBusy = false :=
  have hv : paramsValid sBoth.cfg = true := by decide +kernel
  have hi : invCheck sBoth = true := by decide +kernel
  ⟨aboutTo_of hv rfl rfl, inv_of_check (s := about i) hi, rfl, rfl, rfl, rfl⟩

/-- A thread with one line to run, its turn next. -/
def sLine (w : OpWord) : State := { sBoth with thread := ⟨[.line { word := w }], [], .unit⟩, turns := [.host] }

/-- A boundary word for each clause of R150, in a program and as a turn. -/
theorem test_witness_WordsThatSpellNoOperationAreRefused :
    (opClassBits 0x0200 = 0 ∧ (0x0200 : OpWord).extractLsb' 9 5 ≠ 0) ∧
    (opClassBits 0x01FE = 0 ∧ (0x01FE : OpWord).extractLsb' 9 5 = 0 ∧ (0x01FE : OpWord).extractLsb' 0 2 ≠ 0) ∧
    (opClassBits 0x0018 = 0 ∧ (0x0018 : OpWord).extractLsb' 9 5 = 0 ∧ (0x0018 : OpWord).extractLsb' 0 2 = 0 ∧
      ((0x0018 : OpWord).extractLsb' 0 8).toNat ∉
        [0x00, 0x04, 0x08, 0x0C, 0x10, 0x14, 0x30, 0x34, 0x38, 0x3C, 0x40, 0x44]) ∧
    (opClassBits 0x4E00 = 1 ∧ 0x0D < opNumber 0x4E00) ∧ (opClassBits 0x4000 = 1 ∧ opNumber 0x4000 = 0) ∧
    (opClassBits 0x8C00 = 2 ∧ 0x0B < opNumber 0x8C00) ∧
    (opClassBits 0xC700 = 3 ∧ opNumber 0xC700 ∉ [0x01, 0x02, 0x03, 0x04, 0x05, 0x06, 0x10, 0x11, 0x12, 0x13]) ∧
    (opClassBits 0xC202 = 3 ∧ (0xC202 : OpWord).extractLsb' 1 7 ≠ 0) ∧
    (opClassBits 0xC601 = 3 ∧ (0xC601 : OpWord).getLsbD 0 = true ∧ opNumber 0xC601 ∈ [0x06, 0x10, 0x11, 0x12]) ∧
    paramsValid sBoth.cfg = true := by decide +kernel

theorem test_witness_refused_lines :
    (∀ w, (sLine w).turn = .host ∧ (sLine w).code = .line { word := w } :: [] ∧
      resolveArgs (sLine w).running.vals { word := w } = .inl {}) ∧ opClassBits 0xC200 = 3 ∧
    decode 0x4E00 {} = .error (.illegalOp 0x4E00) ∧ decode 0x0002 {} = .error (.badRegisterAccess 0x02) ∧
    decode 0x0018 {} = .error (.unmappedRegister 0x18) ∧ ({ sBoth with turns := [.auto 0xC700] } : State).turn = .auto 0xC700 ∧
    decode 0xC700 {} = .error (.illegalOp 0xC700) ∧
    ({ sBoth with turns := [.auto 0x0002] } : State).turn = .auto 0x0002 ∧
    ({ sBoth with turns := [.auto 0x0018] } : State).turn = .auto 0x0018 ∧
    faultOf (step { sBoth with turns := [.auto 0x0002] }) = some (.badRegisterAccess 0x02) ∧
    faultOf (step { sBoth with turns := [.auto 0x0018] }) = some (.unmappedRegister 0x18) :=
  ⟨fun _ => ⟨rfl, rfl, rfl⟩, rfl, rfl, rfl, rfl, rfl, rfl, rfl, rfl, by decide +kernel, by decide +kernel⟩

theorem test_witness_StepRunsTheDecodedOperation :
    (paramsValid (sLine 0x4300).cfg = true ∧ (sLine 0x4300).turn = .host ∧
      (sLine 0x4300).code = .line { word := 0x4300 } :: [] ∧
      lineInstr (sLine 0x4300).running.vals { word := 0x4300 } = .next .fence) ∧
    (({ about .fence with turns := [.host] } : State).turn = .host ∧ (about .fence).code = .op .fence :: [] ∧
      Instr.fence.opClass ≠ .auto) ∧
    (({ sBoth with turns := [.host], thread := ⟨[.app0Store .tx 0x10020], [], .unit⟩ } : State).turn = .host ∧
      ({ sBoth with thread := ⟨[.app0Store .tx 0x10020], [], .unit⟩ } : State).code = .app0Store .tx 0x10020 :: []) ∧
    (({ sBoth with turns := [.auto 0xC600] } : State).turn = .auto 0xC600 ∧ decode 0xC600 {} = .ok .eResetDone ∧
      Instr.eResetDone.opClass = .auto) :=
  ⟨⟨by decide +kernel, rfl, rfl, rfl⟩, ⟨rfl, rfl, by decide⟩, ⟨rfl, rfl⟩, rfl, rfl, by decide⟩

theorem test_witness_PlacedWordRunsNext :
    paramsValid State.reset.cfg = true ∧ decode 0x4300 {} = .ok .fence ∧ decode 0xC301 {} = .ok .eXferRx :=
  ⟨by decide +kernel, rfl, rfl⟩

theorem test_witness_DmasrReadReturnsTheStatus :
    (sBoth.eng.get .tx).phase = .halted ∧ ((withEng .rx (running .idle)).eng.get .rx).phase = .idle ∧
    (sFetch.eng.get .tx).phase = .fetch ∧ (sXferRx.eng.get .rx).phase = .xfer ∧ (sWbRx.eng.get .rx).phase = .wb :=
  ⟨rfl, rfl, rfl, rfl, rfl⟩

theorem test_witness_RefusedRegisterWrites :
    ({ sReady with rstBusy := true } : State).rstBusy = true ∧ sReady.rstBusy = false ∧ (8 : Word).getLsbD 3 = true ∧
    (16 : Word).getLsbD 4 = true ∧ ∃ t, exec (rdInstr .rx .dmacr) sReady = .next t ∧ t.ret = .word 0x00010000 :=
  ⟨rfl, rfl, rfl, rfl, next_with (by decide +kernel)⟩

theorem test_witness_register_writes :
    sBoth.rstBusy = false ∧ (4 : Word).getLsbD 2 = true ∧ (4 : Word).getLsbD 3 = false ∧ (4 : Word).getLsbD 4 = false ∧
    (0x00017001 : Word).getLsbD 2 = false ∧ (0x00017001 : Word).getLsbD 3 = false ∧ (0x00017001 : Word).getLsbD 4 = false ∧
    (0x00017001 : Word).extractLsb' 16 8 ≠ 0 ∧ (1 : Word).extractLsb' 16 8 = 0 ∧
    (∃ t, exec (wrInstr .tx .dmacr 1) { sBoth with draws := [(255 : BitVec 8).toNat - 1] } = .next t ∧
      t.eng.tx.cr.irqThreshold = 255) ∧
    ((withEng .tx (running .idle)).eng.get .tx).phase ≠ .halted ∧ (sBoth.eng.get .tx).phase = .halted ∧
    (0x10020 : Word).extractLsb' 0 6 ≠ 0 ∧ (0x10040 : Word).extractLsb' 0 6 = 0 :=
  ⟨rfl, rfl, rfl, rfl, rfl, rfl, rfl, by decide, rfl, next_with (by decide +kernel), by decide, rfl, by decide, rfl⟩

theorem test_witness_LoadReturnsTheYoungestStore :
    (0x10002 : Addr).toNat % 4 ≠ 0 ∧ (0x10000 : Addr).toNat % 4 = 0 ∧ (0xF0000000 : Addr).toNat % 4 = 0 ∧
    busResp sBoth.cfg 0xF0000000 4 false ≠ .okay ∧ busResp sBoth.cfg 0x10000 4 false = .okay ∧
    ([⟨0x10000, 1⟩, ⟨0x10000, 2⟩] : List SbEntry) = [⟨0x10000, 1⟩] ++ ⟨0x10000, 2⟩ :: [] ∧
    sBoth.cfg.cacheMode = .coherent ∧ busResp sCached.cfg 0x20080 4 false = .okay ∧
    after (exec (.ld32 0x20080) { sCached with draws := [1] }) (fun t => t.cache.map fun l => (l.base, l.dirty)) =
      some [(0x20000, true), (0x20040, false), (0x20080, false)] := by decide +kernel

theorem test_witness_StoreWaitsInTheBuffer :
    (0x10000 : Addr).toNat % 4 = 0 ∧ (0x10003 : Addr).toNat % 4 ≠ 0 ∧ engineChan (.eFetch .tx) = some .tx ∧
    engineChan .eXferRx = some .rx := by decide

theorem test_witness_FenceWaitsForTheBuffer :
    sBoth.sb = [] ∧ paramsValid (about .fence).cfg = true ∧ (about .fence).code = .op .fence :: [] ∧ (about .fence).sb = [] ∧
    ({ about .fence with sb := [⟨0x10018, 1⟩] } : State).sb ≠ [] :=
  ⟨rfl, by decide +kernel, rfl, rfl, by decide⟩

/-- S_BOTH with two pending stores, in either cache mode. -/
def sPending (m : CacheMode) : State :=
  { sBoth with cfg := { Params.vectors with cacheMode := m }, sb := [⟨0x20000, 1⟩, ⟨0x20004, 2⟩] }

theorem test_witness_DrainTakesAnOldestEntry :
    (sPending .noncoherent).sb = [⟨0x20000, 1⟩] ++ ⟨0x20004, 2⟩ :: [] ∧
    (∀ x ∈ ([⟨0x20000, 1⟩] : List SbEntry), x.addr ≠ 0x20004) ∧
    busResp (sPending .noncoherent).cfg 0x20004 4 true = .okay ∧ (sPending .coherent).cfg.cacheMode = .coherent ∧
    (0x20004 : Addr).toNat % 4 = 0 ∧ sCached.cfg.cacheMode = .noncoherent ∧ basesRise sCached.cache = true ∧
    uncachedRing sCached.cfg 0x1001F = true ∧ uncachedRing sCached.cfg 0x2003F = false ∧
    (⟨0x20000, List.replicate 64 0x5A, true⟩ : CacheLine) ∈ sCached.cache ∧
    0x20000 = 0x2003F / sCached.cfg.line * sCached.cfg.line ∧
    uncachedRing sCached.cfg 0x20080 = false ∧ ∀ l ∈ sCached.cache, l.base ≠ 0x20080 := by
  decide +kernel

/-- R107: a store to a cached clean line dirties it and leaves memory; one to a line that is not cached fills it or not by the
draw. -/
theorem test_drain_through_the_cache :
    after (exec .envDrain { sCached with sb := [⟨0x20044, 7⟩] })
      (fun t => (t.mem == sCached.mem, t.cache.map fun l => (l.base, l.dirty, l.bytes.getD 4 0))) =
      some (true, [(0x20000, true, 0x5A), (0x20040, true, 7)]) ∧
    after (exec .envDrain { sCached with sb := [⟨0x20084, 7⟩], draws := [1] })
      (fun t => (t.mem == sCached.mem, t.cache.map fun l => (l.base, l.dirty))) =
      some (true, [(0x20000, true), (0x20040, false), (0x20080, true)]) ∧
    after (exec .envDrain { sCached with sb := [⟨0x20084, 7⟩], draws := [0] })
      (fun t => (t.mem.read 0x20084, t.cache == sCached.cache)) = some (7, true) := by decide +kernel

theorem test_witness_DrainIsInvisibleToTheHost :
    paramsValid (sPending .noncoherent).cfg = true ∧ Inv (sPending .noncoherent) ∧
    (∃ t, exec .envDrain (sPending .noncoherent) = .next t ∧ t.sb = [⟨0x20004, 2⟩]) ∧ (0x20000 : Addr).toNat % 4 = 0 :=
  ⟨by decide +kernel, inv_of_check (by decide +kernel), next_with (by decide +kernel), rfl⟩

/-- A dirty cached line that the first byte of a range meets, and one that no byte of it meets. -/
theorem test_witness_maintenance :
    paramsValid sCached.cfg = true ∧ Inv sCached ∧ sCached.cfg.cacheMode = .noncoherent ∧ sBoth.cfg.cacheMode = .coherent ∧
    (⟨0x20000, List.replicate 64 0x5A, true⟩ : CacheLine) ∈ sCached.cache ∧
    LineMeets sCached.cfg ⟨0x20000, List.replicate 64 0x5A, true⟩ 0x2003F 1 ∧
    ¬ LineMeets sCached.cfg ⟨0x20040, List.replicate 64 0, false⟩ 0x2003F 1 ∧ uncachedRing sCached.cfg 0x20000 = false :=
  ⟨by decide +kernel, inv_of_check (by decide +kernel), rfl, rfl, by decide +kernel,
    ⟨0, by omega, 63, by decide, by decide⟩, fun ⟨k, hk, j, _, h⟩ => by simp only [] at h; omega, by decide +kernel⟩

theorem test_witness_LinePrimitives : paramsValid sBoth.cfg = true ∧ ∀ c, 99 ≠ sBoth.cfg.irq.get c :=
  ⟨by decide +kernel, fun c => by cases c <;> decide⟩

theorem test_witness_CriticalSectionsMaskAndRestore : ∀ m c,
    paramsValid (withMode m sBoth).cfg = true ∧ ((withMode m sBoth).ch.get c).irq = (withMode m sBoth).cfg.irq.get c :=
  fun m c => by cases m <;> cases c <;> decide +kernel

theorem test_witness_SleepLogAndCallback :
    ({ sBoth with bodies := [[.start 0, .sleep]] } : State).bodies = [.start 0, .sleep] :: [] :=
  rfl

theorem test_witness_ProcedureChecks :
    (2 ≤ 2) ∧ State.reset.ctl ≠ .ready ∧ sReady.ctl = .ready ∧ (sReady.ch.get .tx).configured = false ∧
    sReady.reclaiming .tx = false ∧ ({ reqTx with dstAdj := .decrement } : CfgReq).dstAdj = .decrement ∧
    reqTx.direction ≠ (sReady.ch.get .rx).dir ∧ sReady.ctl ≠ .uninit ∧ State.reset.ctl = .uninit ∧
    ({ State.reset with cfg := { Params.vectors with channels := 3 } } : State).cfg.channels ≠ 2 := by decide

/-- The callback of a channel being reclaimed, whose body is to configure that channel. -/
theorem test_witness_configure_while_reclaiming :
    let rest : List Item := [.cont (.rcNext .tx (.line 0 true) 0)]
    let s : State := { sBoth with
      thread := ⟨.op (.callback (chanNum .tx) .ok) :: rest, [], .unit⟩, bodies := [[.configure (chanNum .tx) reqTx]] }
    paramsValid s.cfg = true ∧ s.ctl = .ready ∧ s.code = .op (.callback (chanNum .tx) .ok) :: rest ∧
    .cont (.rcNext .tx (.line 0 true) 0) ∈ rest ∧ s.bodies = [.configure (chanNum .tx) reqTx] :: [] ∧
    s.reclaiming .tx = true ∧ faultOf (hostRun 2 s) = some .badConfiguration :=
  ⟨by decide +kernel, rfl, rfl, by decide +kernel, rfl, by decide +kernel, by decide +kernel⟩

theorem test_witness_ProceduresExpand :
    sBoth.ctl = .ready ∧ (sBoth.ch.get .rx).configured = true ∧ sBoth.reclaiming .tx = false ∧ reqTx.srcAdj ≠ .decrement ∧
    reqTx.dstAdj ≠ .decrement ∧ reqTx.direction = (sBoth.ch.get .tx).dir ∧ State.reset.ctl = .uninit ∧
    State.reset.cfg.channels = 2 := by decide

theorem test_witness_FilterAndLinkedMode :
    (0 : Int) = Params.vectors.linkedNoCsum ∧ (1 : Int) ≠ Params.vectors.linkedNoCsum ∧
    (1 : Int) = Params.vectors.linkedFullCsum ∧ (2 : Int) ≠ Params.vectors.linkedNoCsum ∧
    (2 : Int) ≠ Params.vectors.linkedFullCsum ∧ sReady.cfg = Params.vectors ∧
    ({ reqTx with linked := 2 } : CfgReq).linked = 2 := by
  decide +kernel

theorem ring_open (c : Chan) : ∀ i, i < sBoth.cfg.cap.get c → busResp sBoth.cfg (descAddr sBoth.cfg c i) 4 true = .okay ∧
    busResp sBoth.cfg (descAddr sBoth.cfg c i + 4) 4 true = .okay := by
  cases c <;> decide +kernel

theorem test_witness_RelinkClosesTheRing :
    AboutTo (about (.relink (chanNum .rx))) (.relink (chanNum .rx)) [] ∧ Inv (about (.relink 1)) ∧
    ∀ i, i < sBoth.cfg.cap.get .rx → busResp sBoth.cfg (descAddr sBoth.cfg .rx i) 4 true = .okay ∧
      busResp sBoth.cfg (descAddr sBoth.cfg .rx i + 4) 4 true = .okay :=
  ⟨(about_inv _).1, (about_inv _).2.1, ring_open .rx⟩

/-- A state in NONCOHERENT mode, the rings cached or not, with a dirty line of the RX ring and one of the buffer at 0x30000,
the thread about to run an operation. -/
def aboutNc (uncached : Bool) (i : Instr) : State :=
  { about i with
    cfg := { Params.vectors with cacheMode := .noncoherent, descUncached := uncached }
    cache := [⟨0x11040, List.replicate 64 0, true⟩, ⟨0x30000, List.replicate 64 0x5A, true⟩] }

theorem aboutNc_inv (u : Bool) (i : Instr) :
    AboutTo (aboutNc u i) i [] ∧ Inv (aboutNc u i) ∧ (aboutNc u i).ctl = .ready ∧ (aboutNc u i).sb = [] ∧
    (aboutNc u i).rstBusy = false ∧ (aboutNc u i).cfg.cacheMode = .noncoherent ∧ (aboutNc u i).cfg.descUncached = u :=
  have hv : paramsValid (aboutNc u .fence).cfg = true := by cases u <;> decide +kernel
  have hi : invCheck (aboutNc u .fence) = true := by cases u <;> decide +kernel
  ⟨aboutTo_of hv rfl rfl, inv_of_check (s := aboutNc u i) hi, rfl, rfl, rfl, rfl, rfl⟩

theorem ring_open_nc (u : Bool) (i : Instr) : ∀ k, k < (aboutNc u i).cfg.cap.get .rx → ∀ j, j < 16 → ∀ w,
    busResp (aboutNc u i).cfg (descAddr (aboutNc u i).cfg .rx k + BitVec.ofNat 64 (4 * j)) 4 w = .okay := by
  have : ∀ k, k < 4 → ∀ j, j < 16 → ∀ w,
      busResp (aboutNc u .fence).cfg (descAddr (aboutNc u .fence).cfg .rx k + BitVec.ofNat 64 (4 * j)) 4 w = .okay := by
    cases u <;> decide +kernel
  exact this

theorem test_witness_RelinkClosesTheRing_in_every_mode (u : Bool) :
    let s := aboutNc u (.relink (chanNum .rx))
    AboutTo s (.relink (chanNum .rx)) [] ∧ s.ctl = .ready ∧ Inv s ∧ s.sb = [] ∧
    (∀ i, i < s.cfg.cap.get .rx → busResp s.cfg (descAddr s.cfg .rx i) 4 true = .okay ∧
      busResp s.cfg (descAddr s.cfg .rx i + 4) 4 true = .okay) :=
  have h := aboutNc_inv u (.relink (chanNum .rx))
  ⟨h.1, h.2.2.1, h.2.1, rfl, fun i hi => ⟨by simpa using ring_open_nc u (.relink (chanNum .rx)) i hi 0 (by omega) true,
    ring_open_nc u (.relink (chanNum .rx)) i hi 1 (by omega) true⟩⟩

/-- POPULATE of an aligned RX buffer with a dirty cached line, on a slot with a dirty cached line. -/
theorem test_witness_PopulateWritesTheDescriptor_in_every_mode (u : Bool) :
    let i : Instr := .populate (chanNum .rx) 0x30000 0x800 true true
    let s : State := { aboutNc u i with ch := (aboutNc u i).ch.set .rx { (aboutNc u i).ch.rx with pop := 0 } }
    AboutTo s i [] ∧ s.ctl = .ready ∧ (s.ch.get .rx).configured = true ∧ Inv s ∧ s.sb = [] ∧
    1 = ((s.ch.get .rx).pop + 1) % s.cfg.cap.get .rx ∧ SlotFree s (descAddr s.cfg .rx 1) ∧
    BlockFits s.cfg .rx 0x30000 0x800 ∧ Invalidated s.cfg 0x30000 (0x800 : Word).toNat 0x307FF ∧
    LineMeets s.cfg ⟨0x30000, List.replicate 64 0x5A, true⟩ (0x30000 : Addr).toNat (0x800 : Word).toNat ∧
    ∀ k w, k < 16 → busResp s.cfg (descAddr s.cfg .rx 1 + BitVec.ofNat 64 (4 * k)) 4 w = .okay :=
  ⟨aboutTo_of (aboutNc_inv u .fence).1.valid rfl rfl, rfl, rfl, inv_of_check (by cases u <;> decide +kernel), rfl, rfl,
    ⟨by cases u <;> decide +kernel, by cases u <;> decide +kernel⟩,
    ⟨by decide, fun _ _ => (by decide : 0x30000 % 64 = 0 ∧ 0x800 % 64 = 0)⟩,
    ⟨by cases u <;> decide +kernel, 0x7FF, by decide, rfl⟩, ⟨0, by decide, 0, (by decide : 0 < 64), rfl⟩,
    fun k w hk => ring_open_nc u .fence 1 (by decide : 1 < 4) k hk w⟩

theorem desc_open (c : Chan) (i : Nat) (h : i < 2) : ∀ k w, k < 16 →
    busResp sBoth.cfg (descAddr sBoth.cfg c i + BitVec.ofNat 64 (4 * k)) 4 w = .okay := by
  have : ∀ i, i < 2 → ∀ k, k < 16 → ∀ w, busResp sBoth.cfg (descAddr sBoth.cfg c i + BitVec.ofNat 64 (4 * k)) 4 w = .okay := by
    cases c <;> decide +kernel
  exact fun k w hk => this i h k hk w

/-- POPULATE of the largest block on a free slot. -/
theorem test_witness_PopulateWritesTheDescriptor :
    let s := about (.populate (chanNum .tx) 0x20000 0x3FFFFFF true false)
    AboutTo s (.populate (chanNum .tx) 0x20000 0x3FFFFFF true false) [] ∧ Inv s ∧ (s.ch.get .tx).configured = true ∧
    0 = ((s.ch.get .tx).pop + 1) % s.cfg.cap.get .tx ∧
    (∀ k w, k < 16 → busResp s.cfg (descAddr s.cfg .tx 0 + BitVec.ofNat 64 (4 * k)) 4 w = .okay) ∧
    s.mem.readWord (descAddr s.cfg .tx 0 + 0x18) = 0 ∧ s.mem.readWord (descAddr s.cfg .tx 0 + 0x1C) = 0 ∧
    (0x3FFFFFF : Word).toNat ≤ 2 ^ 26 - 1 :=
  ⟨(about_inv _).1, (about_inv _).2.1, rfl, rfl, desc_open .tx 0 (by omega), by decide +kernel, by decide +kernel, by decide⟩

/-- POPULATE of one byte too many, of a misaligned RX buffer (NONCOHERENT, an uncached ring), and on a busy slot. -/
theorem test_witness_PopulateRefusesWithoutEffect :
    let s := about (.populate (chanNum .tx) 0x20000 0x4000000 true true)
    let u : State := { about (.populate (chanNum .rx) 0x30010 64 true true) with
      cfg := { Params.vectors with cacheMode := .noncoherent } }
    let b := { s with sb := [⟨0x10018, 0x08000064⟩] }
    let d := descAddr s.cfg .tx (((s.ch.get .tx).pop + 1) % s.cfg.cap.get .tx)
    (AboutTo s (.populate (chanNum .tx) 0x20000 0x4000000 true true) [] ∧ Inv s ∧ (s.ch.get .tx).configured = true ∧
      busResp s.cfg (d + 0x18) 4 false = .okay ∧ busResp s.cfg (d + 0x1C) 4 false = .okay ∧ s.loadWord (d + 0x18) = 0 ∧
      s.loadWord (d + 0x1C) = 0 ∧ 2 ^ 26 ≤ (0x4000000 : Word).toNat) ∧
    (AboutTo u (.populate (chanNum .rx) 0x30010 64 true true) [] ∧ Inv u ∧ u.cfg.descUncached = true ∧
      (0x30010 : Addr).toNat % u.cfg.line ≠ 0 ∧ u.loadWord (descAddr u.cfg .rx 0 + 0x18) = 0 ∧
      u.loadWord (descAddr u.cfg .rx 0 + 0x1C) = 0) ∧
    AboutTo b (.populate (chanNum .tx) 0x20000 0x4000000 true true) [] ∧ Inv b ∧ b.loadWord (d + 0x18) ≠ 0 :=
  ⟨⟨(about_inv _).1, (about_inv _).2.1, rfl, by decide +kernel, by decide +kernel, by decide +kernel, by decide +kernel,
      by decide⟩,
    ⟨aboutTo_of (by decide +kernel) rfl rfl, inv_of_check (by decide +kernel), rfl, by decide +kernel, by decide +kernel,
      by decide +kernel⟩,
    aboutTo_of (by decide +kernel) rfl rfl, inv_of_check (by decide +kernel), by decide +kernel⟩

theorem test_witness_ReclaimStopsAtAnUnfinishedDescriptor :
    let s := about (.reclaim (chanNum .tx))
    AboutTo s (.reclaim (chanNum .tx)) [] ∧ Inv s ∧ (s.ch.get .tx).configured = true ∧ s.cfg.cacheMode = .coherent ∧
    busResp s.cfg (descAddr s.cfg .tx 0 + 0x1C) 4 false = .okay ∧
    (s.loadWord (descAddr s.cfg .tx 0 + 0x1C)).extractLsb' 26 6 = 0 :=
  ⟨(about_inv _).1, (about_inv _).2.1, rfl, rfl, by decide +kernel, by decide +kernel⟩

/-- RX with one finished descriptor, its checksum word inspected and bad (V132). -/
def sDone : State :=
  let s := about (.reclaim (chanNum .rx))
  { s with
    ch := s.ch.set .rx { s.ch.rx with csumChk := true }
    mem := (s.mem.writeBytes 0x1101C (wordBytes 0x8C00003C)).writeBytes 0x11028 (wordBytes 0x100)
    bodies := [[]] }

theorem test_witness_ReclaimReturnsOneDescriptor :
    AboutTo sDone (.reclaim (chanNum .rx)) [] ∧ Inv sDone ∧ sDone.ctl = .ready ∧ (sDone.ch.get .rx).configured = true ∧
    sDone.cfg.cacheMode = .coherent ∧ sDone.sb = [] ∧
    (∀ k w, k < 16 → busResp sDone.cfg (descAddr sDone.cfg .rx 0 + BitVec.ofNat 64 (4 * k)) 4 w = .okay) ∧
    busResp sDone.cfg (descAddr sDone.cfg .rx 1 + 0x1C) 4 false = .okay ∧
    sDone.mem.readWord (descAddr sDone.cfg .rx 0 + 0x1C) = 0x8C00003C ∧ (0x8C00003C : Word).extractLsb' 26 6 ≠ 0 ∧
    (sDone.mem.readWord (descAddr sDone.cfg .rx 1 + 0x1C)).extractLsb' 26 6 = 0 ∧ sDone.bodies = [] :: [] :=
  ⟨aboutTo_of (by decide +kernel) rfl rfl, inv_of_check (by decide +kernel), rfl, rfl, rfl, rfl, desc_open .rx 0 (by omega),
    by decide +kernel, by decide +kernel, by decide, by decide +kernel, rfl⟩

theorem test_witness_channel_procedures : ∀ i, i ∈ [Instr.start (chanNum .tx), .stop (chanNum .tx), .getStatus (chanNum .tx)] →
    AboutTo (about i) i [] ∧ Inv (about i) ∧ (about i).ctl = .ready ∧ ((about i).ch.get .tx).configured = true ∧
    (about i).rstBusy = false ∧ (about i).sb = [] :=
  fun i _ => ⟨(about_inv i).1, (about_inv i).2.1, rfl, rfl, rfl, rfl⟩

theorem test_witness_StatusReportsBusy_lines :
    paramsValid sStatusLine.cfg = true ∧ sStatusLine.ctl = .ready ∧
    sStatusLine.code = .line { word := 0x8600, args := { c := chanNum .rx }, dst := some 3, dst2 := some 4 } :: [] ∧
    sStatusLine.irqs = [] ∧ 3 ≠ 4 ∧
    ({ sStatusLine with thread :=
      ⟨[.line { word := 0x8600, args := { c := 2 }, dst := some 3, dst2 := some 4 }], [], .unit⟩ } : State).code =
      .line { word := 0x8600, args := { c := 2 }, dst := some 3, dst2 := some 4 } :: [] :=
  ⟨by decide +kernel, rfl, rfl, rfl, by decide, rfl⟩

/-- START over two pending stores that the bus accepts, the tail's own descriptor among them. -/
theorem test_witness_StartPublishesTheTail_over_stores :
    let s : State := { about (.start (chanNum .tx)) with sb := [⟨0x100D8, 0x0C000010⟩, ⟨0x20000, 2⟩] }
    AboutTo s (.start (chanNum .tx)) [] ∧ Inv s ∧ s.ctl = .ready ∧ (s.ch.get .tx).configured = true ∧ s.rstBusy = false ∧
    s.sb ≠ [] ∧ (∀ p ∈ s.sb, busResp s.cfg p.addr 4 true = .okay) ∧ s.cfg.cacheMode = .coherent :=
  ⟨aboutTo_of (by decide +kernel) rfl rfl, inv_of_check (by decide +kernel), rfl, rfl, rfl, by decide, by decide +kernel, rfl⟩

/-- V170: a completion is pending, and the delay timer is armed, so that E_DELAY can come between ISR's read and its write. -/
def sDelayed : State :=
  let s := about (.isr (chanNum .tx))
  s.setEng .tx { s.eng.tx with
    cr := ⟨true, true, true, true, 4, 10⟩, sr := { s.eng.tx.sr with iocIrq := true }, cnt := 3, armed := true }

/-- Five steps of the host take ISR through its read; E_DELAY then raises DLY_IRQ. -/
theorem test_witness_isr_with_a_step_between :
    AboutTo sDelayed (.isr (chanNum .tx)) [] ∧ Inv sDelayed ∧ sDelayed.ctl = .ready ∧ sDelayed.rstBusy = false ∧
    (∀ i ∈ [Instr.eDelay .tx], (engineChan i).isSome = true) ∧
    after (bindNext (hostRun 5 sDelayed) (autoRun [.eDelay .tx])) (fun w => (w.eng.tx.sr.dlyIrq, w.eng.tx.armed)) =
      some (true, false) ∧
    after (bindNext (bindNext (hostRun 5 sDelayed) (autoRun [.eDelay .tx])) (hostRun 2))
      (fun t => (t.eng.tx.sr.dlyIrq, t.eng.tx.sr.iocIrq, t.code.head?)) =
      some (false, false, some (.op (.reclaim 0))) :=
  ⟨aboutTo_of (by decide +kernel) rfl rfl, inv_of_check (by decide +kernel), rfl, rfl, by decide, by decide +kernel,
    by decide +kernel⟩

/-- ISR with nothing pending, and with a completion and an error. -/
theorem test_witness_IsrAcknowledgesWhatItRead :
    let s := about (.isr (chanNum .tx))
    let u := s.setEng .tx { s.eng.tx with sr := { s.eng.tx.sr with iocIrq := true, errIrq := true } }
    (AboutTo s (.isr (chanNum .tx)) [] ∧ Inv s ∧ s.ctl = .ready ∧ s.rstBusy = false ∧ (s.eng.get .tx).sr.iocIrq = false ∧
      (s.eng.get .tx).sr.dlyIrq = false) ∧
    AboutTo u (.isr (chanNum .tx)) [] ∧ Inv u ∧ u.ctl = .ready ∧ u.rstBusy = false ∧ (u.eng.get .tx).sr.iocIrq = true :=
  ⟨⟨(about_inv _).1, (about_inv _).2.1, rfl, rfl, rfl, rfl⟩, aboutTo_of (by decide +kernel) rfl rfl,
    inv_of_check (by decide +kernel), rfl, rfl, rfl⟩

theorem test_witness_init :
    let s : State := { State.reset with thread := ⟨[.op .init], [], .unit⟩ }
    AboutTo s .init [] ∧ s.ctl = .uninit ∧ s.cfg.channels = 2 ∧ s.rstBusy = false :=
  ⟨aboutTo_of (by decide +kernel) rfl rfl, rfl, rfl, rfl⟩

/-- CONFIGURE with no blocks and full checksum offload. -/
theorem test_witness_ConfigureOpensASession :
    let q : CfgReq := { reqTx with blocks := [], linked := 1 }
    let s := about (.configure (chanNum .tx) q)
    AboutTo s (.configure (chanNum .tx) q) [] ∧ Inv s ∧ s.reclaiming .tx = false ∧ q.srcAdj ≠ .decrement ∧
    q.dstAdj ≠ .decrement ∧ q.direction = (s.ch.get .tx).dir ∧ q.blocks = [] ∧
    linkedMode s.cfg .tx q.linked (s.ch.get .tx) = some { s.ch.get .tx with app0 := 2, csumChk := false } ∧
    (s.eng.get .tx).phase = .halted ∧
    ∀ i, i < s.cfg.cap.get .tx → busResp s.cfg (descAddr s.cfg .tx i) 4 true = .okay ∧
      busResp s.cfg (descAddr s.cfg .tx i + 4) 4 true = .okay :=
  ⟨(about_inv _).1, (about_inv _).2.1, rfl, by decide, by decide, rfl, rfl, rfl, rfl, ring_open .tx⟩

/-- RX at cmp = 3, in NONCOHERENT mode, the last descriptor and the first one finished, 60 bytes at 0x30000 and an error. -/
def sPass (u : Bool) : State :=
  let s := aboutNc u (.reclaim (chanNum .rx))
  { s with
    ch := s.ch.set .rx { s.ch.rx with cmp := 3 }
    mem := ((s.mem.writeBytes 0x110DC (wordBytes 0x8C00003C)).writeBytes 0x110C8 (wordBytes 0x30000)).writeBytes 0x1101C
      (wordBytes 0xA0000000)
    bodies := [[], []] }

/-- A pass over two descriptors that wraps, the third unfinished (cached ring or not). -/
theorem test_witness_ReclaimReturnsEveryFinishedDescriptor (u : Bool) :
    let d := fun j => descAddr (sPass u).cfg .rx ((((sPass u).ch.get .rx).cmp + j) % (sPass u).cfg.cap.get .rx)
    AboutTo (sPass u) (.reclaim (chanNum .rx)) [] ∧ (sPass u).ctl = .ready ∧ ((sPass u).ch.get .rx).configured = true ∧
    Inv (sPass u) ∧ (sPass u).sb = [] ∧ 2 < (sPass u).cfg.cap.get .rx ∧
    (sPass u).loadWord (d 0 + 0x1C) = 0x8C00003C ∧ (0x8C00003C : Word).extractLsb' 26 6 ≠ 0 ∧
    (sPass u).loadWord (d 1 + 0x1C) = 0xA0000000 ∧ (0xA0000000 : Word).extractLsb' 26 6 ≠ 0 ∧
    ((sPass u).loadWord (d 2 + 0x1C)).extractLsb' 26 6 = 0 ∧
    (sPass u).loadWord (d 0 + 0x0C) ++ (sPass u).loadWord (d 0 + 0x08) = (0x30000 : Addr) ∧
    (∀ k, k < ((0x8C00003C : Word).extractLsb' 0 26).toNat →
      inRingOf (sPass u).cfg .rx (((0x30000 : Addr).toNat + k) % 2 ^ 64) = false) ∧
    ((0xA0000000 : Word).extractLsb' 0 26).toNat = 0 ∧ (sPass u).bodies = List.replicate 2 [] ++ [] :=
  ⟨aboutTo_of (aboutNc_inv u .fence).1.valid rfl rfl, rfl, rfl, inv_of_check (by cases u <;> decide +kernel), rfl,
    (by decide : 2 < 4), by cases u <;> decide +kernel, by decide, by cases u <;> decide +kernel, by decide,
    by cases u <;> decide +kernel, by cases u <;> decide +kernel, by cases u <;> decide +kernel, by decide, rfl⟩

/-- A pass over the whole of a ring of one descriptor. -/
theorem test_witness_ReclaimReturnsEveryFinishedDescriptor_whole_ring :
    let s : State := { about (.reclaim (chanNum .tx)) with
      cfg := { Params.vectors with cap := ⟨1, 4⟩ }
      ch := sBoth.ch.set .tx { sBoth.ch.tx with cap := 1, pop := 0, cb := none }
      mem := [(0x1001F, 0x80)] }
    AboutTo s (.reclaim (chanNum .tx)) [] ∧ Inv s ∧ s.sb = [] ∧ 1 = s.cfg.cap.get .tx ∧
    (s.loadWord (descAddr s.cfg .tx 0 + 0x1C)).extractLsb' 26 6 ≠ 0 ∧ (s.ch.get .tx).cb = none :=
  ⟨aboutTo_of (by decide +kernel) rfl rfl, inv_of_check (by decide +kernel), rfl, rfl, by decide +kernel, rfl⟩

/-- A request of five aligned RX blocks, the last of them one more than the ring has slots. -/
def reqRx : CfgReq :=
  ⟨.periphToMem, .noChange, .increment, [⟨0, 0x30000, 64⟩, ⟨0, 0x30040, 64⟩, ⟨0, 0x30080, 64⟩, ⟨0, 0x300C0, 64⟩,
    ⟨0, 0x30100, 64⟩], 0, some 7, 9⟩

/-- CONFIGURE that fills the ring: four blocks go, the fifth is busy. -/
theorem test_witness_ConfigurePopulatesTheBlocks (u : Bool) :
    let s := aboutNc u (.configure (chanNum .rx) reqRx)
    AboutTo s (.configure (chanNum .rx) reqRx) [] ∧ s.ctl = .ready ∧ Inv s ∧ s.reclaiming .rx = false ∧
    reqRx.srcAdj ≠ .decrement ∧ reqRx.dstAdj ≠ .decrement ∧ reqRx.direction = (s.ch.get .rx).dir ∧
    (linkedMode s.cfg .rx reqRx.linked (s.ch.get .rx)).isSome = true ∧ s.sb = [] ∧ s.rstBusy = false ∧
    (s.eng.get .rx).phase = .halted ∧ 4 = s.cfg.cap.get .rx ∧ 4 ≤ reqRx.blocks.length ∧
    (∀ b ∈ reqRx.blocks, BlockFits s.cfg .rx b.dst b.size) ∧
    (∀ i, i < 4 → SlotFree s (descAddr s.cfg .rx i)) ∧
    (∀ b ∈ reqRx.blocks, ∀ i, i < b.size.toNat → inRingOf s.cfg .rx ((b.dst.toNat + i) % 2 ^ 64) = false) ∧
    ∃ b, reqRx.blocks[4]? = some b :=
  have h := aboutNc_inv u (.configure (chanNum .rx) reqRx)
  ⟨h.1, h.2.2.1, h.2.1, rfl, by decide, by decide, rfl, rfl, rfl, rfl, rfl, rfl, by decide,
    fun b hb => ⟨(by decide : ∀ b ∈ reqRx.blocks, b.size.toNat < 2 ^ 26) b hb, fun _ _ =>
      (by decide : ∀ b ∈ reqRx.blocks, b.dst.toNat % 64 = 0 ∧ b.size.toNat % 64 = 0) b hb⟩,
    fun i hi => ⟨by revert i; cases u <;> decide +kernel, by revert i; cases u <;> decide +kernel⟩,
    by cases u <;> decide +kernel, ⟨_, rfl⟩⟩

/-- CONFIGURE ends with its list, and at a block that does not fit or finds its slot taken. -/
theorem test_witness_configure_ends :
    BlockFits Params.vectors .tx 0x20000 100 ∧ ¬ BlockFits Params.vectors .tx 0x20000 0x4000000 ∧
    reqTx.blocks[1]? = some ⟨0x20100, 0, 200⟩ ∧ 2 = reqTx.blocks.length ∧ SlotFree sBoth (descAddr sBoth.cfg .tx 1) ∧
    ¬ SlotFree { sBoth with mem := [(0x1005F, 0x80)] } (descAddr sBoth.cfg .tx 1) :=
  ⟨⟨by decide, fun h => nomatch h⟩, fun h => absurd h.1 (by decide), rfl, rfl, ⟨by decide +kernel, by decide +kernel⟩,
    fun h => absurd h.2 (by decide +kernel)⟩

theorem test_witness_HaltDelayAndResetDone :
    let d := withEng .rx fun e => { e with cr := ⟨true, true, true, true, 4, 10⟩, cnt := 3, armed := true }
    ((withEng .tx fun e => { e with phase := .fetch }).eng.get .tx).phase = .fetch ∧ (sBoth.eng.get .tx).cr.rs = false ∧
    sBoth.rstBusy = false ∧ (d.eng.get .rx).armed = true ∧ (d.eng.get .rx).cr.irqDelay ≠ 0 ∧ d.rstBusy = false ∧
    ({ sBoth with rstBusy := true } : State).rstBusy = true := by decide +kernel

/-- A bus that answers DECERR in the hole and SLVERR to writes of one STATUS word (V97). -/
def busSlv : Params :=
  { Params.vectors with bus := ⟨.touches 0x1001C 0x1001F, .write, .slverr⟩ :: ⟨.touches 0x40000 0x4FFFF, .both, .slverr⟩ ::
      Params.vectors.bus }

/-- Each clause of E_FETCH: a bus error of either kind, a completed flag, a zero length, and a descriptor to transfer. -/
theorem test_witness_FetchAcceptsOrReports :
    sFetch.rstBusy = false ∧ (sFetch.eng.get .tx).phase = .fetch ∧ (sFetch.eng.get .tx).cr.rs = true ∧
    busResp busSlv 0xF0000000 52 false = .decerr ∧ busResp busSlv 0x40000 52 false = .slverr ∧
    busResp sFetch.cfg sFetch.eng.tx.fp 52 false = .okay ∧
    (fetchSnap [(0x1001F, 0x80)] 0x10000).status.getLsbD 31 = true ∧
    (fetchSnap linkedTx 0x10000).status.getLsbD 31 = false ∧
    (fetchSnap linkedTx 0x10000).control.extractLsb' 0 26 = 0 ∧
    (fetchSnap sFetch.mem sFetch.eng.tx.fp).status.getLsbD 31 = false ∧
    (fetchSnap sFetch.mem sFetch.eng.tx.fp).control.extractLsb' 0 26 ≠ 0 := by decide +kernel

/-- Each clause of the transfers: the three answers of the bus, and the legs of 0, some and all bytes. -/
theorem test_witness_transfers :
    sXferTx.rstBusy = false ∧ (sXferTx.eng.tx).phase = .xfer ∧ busResp busSlv 0x20000 100 false = .okay ∧
    busResp busSlv 0x40000 100 false = .slverr ∧ busResp busSlv 0xF0000000 100 false = .decerr ∧
    sXferRx.rstBusy = false ∧ (sXferRx.eng.rx).phase = .xfer ∧ busResp busSlv 0x30000 0x800 true = .okay ∧
    busResp busSlv 0x40000 1 true = .slverr ∧ busResp busSlv 0xF0000000 1 true = .decerr ∧
    busResp busSlv 0x40000 0x800 true = .slverr ∧ busResp busSlv 0xF0000000 0x800 true = .decerr ∧
    (0x800 ≤ (sXferRx.eng.rx.snap.control.extractLsb' 0 26).toNat) ∧
    (60 ≤ (sXferRx.eng.rx.snap.control.extractLsb' 0 26).toNat) ∧
    (List.replicate 60 (0x5A : Byte)).length = 60 := by decide +kernel

/-- A bus that answers SLVERR to writes of `n` bytes in the descriptor 0 of RX, and OKAY to longer ones. -/
def busPart (n : Nat) : Params :=
  { Params.vectors with bus := ⟨.starts 0x11000 0x1103F n n, .write, .slverr⟩ :: Params.vectors.bus }

/-- R105: each part of an RX writeback is written only if the bus accepts that part. -/
theorem test_writeback_parts :
    after (exec (.eWb .rx) { sWbRx with cfg := busPart 4 })
      (fun t => (t.mem.readWord 0x1101C, t.mem.readWord 0x11028, t.eng.rx.sr.sgSlvErr, t.eng.rx.phase)) =
      some (0, 0, true, .halted) ∧
    after (exec (.eWb .rx) { sWbRx with cfg := busPart 20 })
      (fun t => (t.mem.readWord 0x1101C, t.mem.readWord 0x11028, t.eng.rx.sr.sgSlvErr, t.eng.rx.fp)) =
      some (0x8C00003C, 0, true, 0x11000) := by decide +kernel

/-- Each clause of E_WB: the three answers of the bus, a misaligned and an aligned next pointer, success and error. -/
theorem test_witness_WritebackCompletes :
    (sWbTx .okay 100).rstBusy = false ∧ ((sWbTx .okay 100).eng.get .tx).phase = .wb ∧
    busResp busSlv (0xF0000000 + 0x1C) 4 true = .decerr ∧ busResp busSlv (snapTx.addr + 0x1C) 4 true = .slverr ∧
    busResp (sWbTx .okay 100).cfg (snapTx.addr + 0x1C) 4 true = .okay ∧
    busResp sWbRx.cfg (snapRx.addr + 0x1C) 24 true = .okay ∧ busResp sWbRx.cfg (snapRx.addr + 0x1C) 4 true = .okay ∧
    busResp sWbRx.cfg (snapRx.addr + 0x20) 20 true = .okay ∧
    busResp (busPart 4) (snapRx.addr + 0x1C) 24 true = .okay ∧ busResp (busPart 4) (snapRx.addr + 0x1C) 4 true = .slverr ∧
    busResp (busPart 20) (snapRx.addr + 0x1C) 24 true = .okay ∧
    busResp (busPart 20) (snapRx.addr + 0x1C) 4 true = .okay ∧ busResp (busPart 20) (snapRx.addr + 0x20) 20 true = .slverr ∧
    ((0x0 : Word) ++ (0x10044 : Word) : Addr).extractLsb' 0 6 ≠ 0 ∧
    (snapTx.nxtdescMsb ++ snapTx.nxtdesc : Addr).extractLsb' 0 6 = 0 ∧ ((sWbTx .okay 100).eng.get .tx).xres.resp = .okay ∧
    ((sWbTx .decerr 0).eng.get .tx).xres.resp ≠ .okay := by decide +kernel

theorem test_witness_DescriptorWordsAndFlags :
    (Eng.boot.cnt = 1) ∧ ({ Eng.boot with cnt := 2 } : Eng).cnt ≠ 1 ∧ irqOut sIrq.eng.tx = true ∧
    descState 0 0 = .free ∧ descState 0 0x04000000 = .finished ∧ descState 0 1 = .pending := by decide +kernel

theorem test_witness_DisabledStepsChangeNothing :
    ({ sBoth with rstBusy := true } : State).rstBusy = true ∧ engineChan (.eWb .rx) = some .rx ∧
    (sBoth.eng.get .tx).phase ≠ .fetch ∧ (sBoth.eng.get .tx).phase ≠ .wb ∧ (sBoth.eng.get .tx).phase ≠ .xfer ∧
    (sBoth.eng.get .tx).armed = false ∧ (sBoth.eng.get .tx).cr.irqDelay = 0 ∧ (sFetch.eng.get .tx).cr.rs = true ∧
    (sBoth.eng.get .tx).cr.rs = false ∧ sBoth.sb = [] ∧ sBoth.cfg.cacheMode = .coherent ∧ sBoth.cache = [] := by
  decide +kernel

theorem test_witness_EvictAndFill :
    sCached.cfg.cacheMode = .noncoherent ∧ (⟨0x20000, List.replicate 64 0x5A, true⟩ : CacheLine) ∈ sCached.cache ∧
    (⟨0x20040, List.replicate 64 0, false⟩ : CacheLine) ∈ sCached.cache ∧ uncachedRing sCached.cfg 0x20000 = false ∧
    uncachedRing sCached.cfg 0xFFFFFFFFFFFFFFFF = false ∧
    ∀ l ∈ sCached.cache, l.base ≠ 0xFFFFFFFFFFFFFFFF / sCached.cfg.line * sCached.cfg.line := by decide +kernel

theorem test_witness_InterruptEntry :
    paramsValid sIrq.cfg = true ∧ (sIrq.ch.get .tx).irq = sIrq.cfg.irq.get .tx ∧ irqOut (sIrq.eng.get .tx) = true ∧
    (sIrq.lines.get .tx).en = true ∧ (sIrq.lines.get .tx).inst = true ∧ sIrq.gie = true ∧
    (∀ i ∈ sIrq.irqs, i.line ≠ sIrq.cfg.irq.get .tx) ∧ sIrq.cfg.nestedIrq = true ∧ irqOut (sIrq.eng.get .rx) = false := by
  decide +kernel

theorem test_witness_InterruptReturn :
    let i : IrqCtx := ⟨.tx, 0, ⟨[.cont (.ret .unit)], [], .unit⟩⟩
    let j : IrqCtx := ⟨.tx, 0, ⟨[.op .sleep, .op .sleep], [], .unit⟩⟩
    paramsValid sBoth.cfg = true ∧ ({ sBoth with irqs := [i] } : State).irqs = i :: [] ∧ i.ctx.code = [.cont (.ret .unit)] ∧
    j.ctx.code = .op .sleep :: .op .sleep :: [] ∧
    ∃ t, stepAs .host { sBoth with irqs := [j] } = .next t ∧ t.code = [.op .sleep] :=
  ⟨by decide +kernel, rfl, rfl, rfl, next_with (by decide +kernel)⟩

/-- A step from a state that has everything the invariant speaks of: an interrupt context, a pending store, a cache. -/
theorem test_witness_EveryStepKeepsTheInvariant :
    let s : State := { sCached with
      irqs := [⟨.rx, 1, ⟨[.op .sleep, .op .sleep], [], .unit⟩⟩], sb := [⟨0x20000, 1⟩], turns := [.auto 0xD000] }
    Inv s ∧ ∃ t, step s = .next t ∧ t.sb = [] :=
  ⟨inv_of_check (by decide +kernel), next_with (by decide +kernel)⟩

theorem test_witness_BootSatisfiesTheInvariant : paramsValid busSlv = true := by decide +kernel

theorem test_witness_OnlyTheseChangeMemory :
    sXferRx.mem.read 0x30000 = 0 ∧ ∃ t, exec .eXferRx sXferRx = .next t ∧ t.mem.read 0x30000 = 0xAA :=
  ⟨by decide +kernel, next_with (by decide +kernel)⟩

theorem test_witness_EnginesAreIndependent :
    engineChan (.eWb .tx) = some .tx ∧ ∃ t, exec (.eWb .tx) (sWbTx .okay 100) = .next t ∧ t.eng.tx.phase = .idle :=
  ⟨rfl, next_with (by decide +kernel)⟩

/-- A change of phase by each row of the table. -/
theorem test_witness_PhaseTransitionsAreTheTable :
    (∃ t, exec (.wrTxDmacr 0x00017001) sBoth = .next t ∧ t.eng.tx.phase = .idle) ∧
    (∃ t, exec (.wrRxTaildescLsb 0x11000) (withEng .rx (running .idle)) = .next t ∧ t.eng.rx.phase = .fetch) ∧
    (∃ t, exec (.eHalt .tx) (withEng .tx fun e => { e with phase := .fetch }) = .next t ∧ t.eng.tx.phase = .halted) ∧
    (∃ t, exec (.eFetch .tx) sFetch = .next t ∧ t.eng.tx.phase = .xfer) ∧
    (∃ t, exec .eXferRx sXferRx = .next t ∧ t.eng.rx.phase = .wb) ∧
    (∃ t, exec (.eWb .tx) (sWbTx .decerr 0) = .next t ∧ t.eng.tx.phase = .halted) ∧
    (∃ t, exec (.eWb .rx) (sWbRx.setEng .rx { sWbRx.eng.rx with curdesc := 0x11040 }) = .next t ∧ t.eng.rx.phase = .fetch) ∧
    ∃ t, exec (.wrRxDmacr 4) sXferTx = .next t ∧ t.eng.tx.phase = .halted :=
  ⟨next_with (by decide +kernel), next_with (by decide +kernel), next_with (by decide +kernel), next_with (by decide +kernel),
    next_with (by decide +kernel), next_with (by decide +kernel), next_with (by decide +kernel), next_with (by decide +kernel)⟩

theorem test_witness_WhoWritesWhat :
    (∃ t, exec (.csEnter 0) (withMode .global sBoth) = .next t ∧ t.gie = false) ∧
    (∃ t, exec (.irqDisable 0) sBoth = .next t ∧ t.lines.tx.en = false) ∧
    (∃ t, exec .envDrain (sPending .coherent) = .next t ∧ t.sb = [⟨0x20004, 2⟩]) ∧
    (∃ t, exec .init { State.reset with cfg := { Params.vectors with channels := 3 } } = .next t ∧ t.ctl = .failed) ∧
    (∃ t, exec (.callback 0 .ok) { sBoth with bodies := [[]] } = .next t ∧ t.cblog = [⟨.tx, 9, .ok⟩]) ∧
    (∃ t, exec (.log "x") sBoth = .next t ∧ t.logs = ["x"]) ∧
    ∃ t, exec .eResetDone { sBoth with rstBusy := true } = .next t ∧ t.rstBusy = false :=
  ⟨next_with (by decide +kernel), next_with (by decide +kernel), next_with (by decide +kernel), next_with (by decide +kernel),
    next_with (by decide +kernel), next_with (by decide +kernel), next_with (by decide +kernel)⟩

theorem test_witness_ErrorBitsAreSticky :
    let s := withEng .tx fun e => { e with sr := ⟨true, true, true, true, true, true, true, true, true⟩ }
    asksReset (.wrTxDmasr 0xFFFFFFFF) = false ∧ (s.eng.get .tx).sr.sgDecErr = true ∧
    ∃ t, exec (.wrTxDmasr 0xFFFFFFFF) s = .next t ∧ t.eng.tx.sr.iocIrq = false :=
  ⟨rfl, rfl, next_with (by decide +kernel)⟩

/-! A fair run: the reset in progress ends, and nothing is enabled after it. -/

/-- The machine of the run after its first step, `n` turns taken freely since. -/
def quietBoot (n : Nat) : State := { State.reset with turnNo := n }

/-- The run. -/
def fairRun : Nat → State
  | 0 => { State.reset with rstBusy := true, turns := [.auto 0xC600] }
  | n + 1 => quietBoot n

theorem legal_turn_step (t : Turn) (n : Nat) (h : t ∈ legalTurns) : takeTurn t (quietBoot n) = .next (quietBoot n) := by
  simp only [legalTurns, List.mem_cons, List.not_mem_nil, or_false] at h
  rcases h with h | h | h | h | h | h | h | h | h | h | h | h | h | h | h | h | h <;> subst h <;> rfl

theorem free_turn_legal (n : Nat) : (quietBoot n).turn ∈ legalTurns := by
  have hk : Config.freeTurn n % 17 < legalTurns.length := Nat.mod_lt _ (by decide)
  change legalTurns.getD (Config.freeTurn n % 17) .host ∈ legalTurns
  rw [List.getD_eq_getElem _ _ hk]
  exact List.getElem_mem hk

theorem test_witness_FairRunsEndTheReset : IsRun fairRun ∧ Fair fairRun ∧ (fairRun 0).rstBusy = true := by
  refine ⟨fun n => ?_, fun p hp n h => ?_, rfl⟩
  · cases n with
    | zero => rfl
    | succ n =>
      have hv : paramsValid State.reset.cfg = true := by decide +kernel
      replace hv : paramsValid (quietBoot n).cfg = true := hv
      simp only [fairRun, step, checkedTurn, hv, if_true]
      exact legal_turn_step _ (n + 1) (free_turn_legal n)
  · have hn := h (n + 1) (Nat.le_succ n)
    simp only [fairTurns, List.mem_cons, List.not_mem_nil, or_false] at hp
    rcases hp with h | h | h | h | h | h | h | h | h | h | h | h | h | h <;> subst h <;> exact absurd hn Bool.false_ne_true

end Sys2Proof.Tests
end

section
/-! What a step runs: the statements of 00_scope.md (R8, R170, R171, R301, R426). -/

namespace Sys2Proof.Machine

/-- A step is the move of the agent whose turn it is, the turn taken off the run's order. -/
theorem step_eq_stepAs {s : State} (hp : paramsValid s.cfg = true) : step s = stepAs s.turn s.nextTurn := by
  rw [stepAs_eq (by simpa using hp), step, checkedTurn, if_pos hp]

@[simp] theorem State.running_setCode (s : State) (is : List Item) :
    (s.setCode is).running = { s.running with code := is } :=
  s.running_setRunning _

/-- A line that spells an operation is run by it, and leaves the assignment of its result to do (R170). -/
theorem runLine_of_lineInstr {s : State} {l : ProgLine} {i : Instr} (hl : lineInstr s.running.vals l = .next i) :
    runLine l s = exec i (s.push (lineTail l)) := by
  rw [runLine, hl]

/-- The host's step on a line of a program. -/
theorem stepAs_line {s : State} {l : ProgLine} {rest : List Item} {i : Instr} (hp : paramsValid s.cfg = true)
    (hc : s.code = .line l :: rest) (hl : lineInstr s.running.vals l = .next i) :
    stepAs .host s = mapNext State.settle (exec i ((s.setCode rest).push (lineTail l))) := by
  have hl' : lineInstr (s.setCode rest).running.vals l = .next i := by simpa using hl
  rw [stepAs_host hp hc, runItem, runLine_of_lineInstr hl']

/-- Settles O4: the step is `stepAs` of the turn, and each of the four forms has its `stepAs` lemma. -/
theorem stepRunsTheDecodedOperation : Obligations.StepRunsTheDecodedOperation := by
  refine ⟨fun s l rest i hp ht hc hl => ?line, fun s i rest hp ht hc hi => ?op, fun s c a rest hp ht hc => ?app0Store,
    fun s w i hp ht hd hi => ?auto⟩
  all_goals rw [step_eq_stepAs hp, ht]
  case line => exact stepAs_line hp hc hl
  case op => exact stepAs_op hp hc hi
  case app0Store => exact stepAs_app0Store hp hc
  case auto => exact stepAs_auto hp hd hi

end Sys2Proof.Machine
end

section
/-! What a read of DMASR returns (10_state.md R43, R53, R56; 40_register_interface.md R180). -/

namespace Sys2Proof.Machine

theorem exec_rdInstr (c : Chan) (r : Reg) (s : State) : exec (rdInstr c r) s = mmioRead c r s := by
  cases c <;> cases r <;> rfl

/-! The parts of a register's value, bit by bit. -/

theorem getLsbD_withDraw (v mask : Word) (d : Nat) {i : Nat} (hi : i < 32) :
    (withDraw v mask d).getLsbD i = if mask.getLsbD i then d.testBit i else v.getLsbD i := by
  simp only [withDraw, BitVec.getLsbD_or, BitVec.getLsbD_and, BitVec.getLsbD_not, BitVec.getLsbD_ofNat, hi]
  cases mask.getLsbD i <;> simp

theorem getLsbD_bitAt (b : Bool) {i j : Nat} (hj : j < 32) : (bitAt b i).getLsbD j = (b && decide (j = i)) := by
  cases b
  · exact BitVec.getLsbD_zero
  · rw [bitAt, if_pos rfl, BitVec.getLsbD_shiftLeft, BitVec.getLsbD_one]
    grind

theorem getLsbD_shiftedField (x : BitVec 8) (k : Nat) {j : Nat} (hj : j < 32) :
    (x.setWidth 32 <<< k).getLsbD j = (decide (k ≤ j) && x.getLsbD (j - k)) := by
  rw [BitVec.getLsbD_shiftLeft, BitVec.getLsbD_setWidth]
  grind

/-! Which bits of DMASR a draw gives. -/

/-- The bits the channel gives in every phase (R43). -/
theorem dmasrMask_channel (ph : Phase) :
    ∀ i ∈ [0, 3, 4, 5, 6, 8, 9, 10, 12, 13, 14, 16, 17, 18, 19, 20, 21, 22, 23],
      (dmasrMask ph).getLsbD i = false := by
  cases ph <;> decide

/-- The bits a draw gives in every phase (R43). -/
theorem dmasrMask_drawn (ph : Phase) :
    ∀ i ∈ [2, 7, 11, 15, 24, 25, 26, 27, 28, 29, 30, 31], (dmasrMask ph).getLsbD i = true := by
  cases ph <;> decide

/-- IDLE is a draw while HALTED, and the channel's in every other phase (R56). -/
theorem dmasrMask_idle (ph : Phase) : (dmasrMask ph).getLsbD 1 = (ph == .halted) := by
  cases ph <;> rfl

/-! The word read. -/

/-- The channel's bits: HALTED, IDLE, SG_INCLD, the errors, the pending bits and the countdown (R43). -/
theorem getLsbD_dmasrFields (e : Eng) {i : Nat} (hi : i < 32) :
    (dmasrFields e).getLsbD i =
      (e.phase == .halted && decide (i = 0) || e.phase == .idle && decide (i = 1) || decide (i = 3)
        || e.sr.dmaIntErr && decide (i = 4) || e.sr.dmaSlvErr && decide (i = 5) || e.sr.dmaDecErr && decide (i = 6)
        || e.sr.sgIntErr && decide (i = 8) || e.sr.sgSlvErr && decide (i = 9) || e.sr.sgDecErr && decide (i = 10)
        || e.sr.iocIrq && decide (i = 12) || e.sr.dlyIrq && decide (i = 13) || e.sr.errIrq && decide (i = 14)
        || decide (16 ≤ i) && e.cnt.getLsbD (i - 16)) := by
  simp only [dmasrFields, BitVec.getLsbD_or, getLsbD_bitAt _ hi, getLsbD_shiftedField _ _ hi, Bool.true_and]

theorem getLsbD_dmasrRead_drawn (e : Eng) (d : Nat) {i : Nat} (hm : (dmasrMask e.phase).getLsbD i = true) :
    (dmasrRead e d).getLsbD i = d.testBit i := by
  rw [dmasrRead, getLsbD_withDraw _ _ _ (BitVec.lt_of_getLsbD hm), if_pos hm]

theorem getLsbD_dmasrRead_channel (e : Eng) (d : Nat) {i : Nat} (hi : i < 32)
    (hm : (dmasrMask e.phase).getLsbD i = false) : (dmasrRead e d).getLsbD i = (dmasrFields e).getLsbD i := by
  rw [dmasrRead, getLsbD_withDraw _ _ _ hi, hm, if_neg Bool.false_ne_true]

theorem dmasrRead_idle_of_halted {e : Eng} (h : e.phase = .halted) (d : Nat) :
    (dmasrRead e d).getLsbD 1 = d.testBit 1 :=
  getLsbD_dmasrRead_drawn e d (by rw [dmasrMask_idle, h]; rfl)

theorem dmasrRead_idle_of_not_halted {e : Eng} (h : e.phase ≠ .halted) (d : Nat) :
    (dmasrRead e d).getLsbD 1 = (e.phase == .idle) := by
  have hm : (dmasrMask e.phase).getLsbD 1 = false := by rw [dmasrMask_idle, beq_eq_false_iff_ne.2 h]
  rw [getLsbD_dmasrRead_channel e d (by decide) hm, getLsbD_dmasrFields e (by decide)]
  simp

theorem dmasrRead_countdown (e : Eng) (d : Nat) : (dmasrRead e d).extractLsb' 16 8 = e.cnt := by
  apply BitVec.eq_of_getLsbD_eq
  intro i hi
  have hm : (dmasrMask e.phase).getLsbD (16 + i) = false :=
    dmasrMask_channel e.phase _ (by simp only [List.mem_cons, List.not_mem_nil, or_false]; omega)
  have h32 : 16 + i < 32 := by omega
  rw [BitVec.getLsbD_extractLsb', getLsbD_dmasrRead_channel e d h32 hm, getLsbD_dmasrFields e h32]
  grind

/-- Settles O9: the word read is `dmasrRead`, whose bits the mask of the phase divides between the draw and the channel. -/
theorem dmasrReadReturnsTheStatus : Obligations.DmasrReadReturnsTheStatus := by
  intro s c
  refine ⟨dmasrRead (s.eng.get c) (s.choice 0), exec_rdInstr c .dmasr s, ?_⟩
  generalize s.eng.get c = e
  generalize s.choice 0 = d
  refine ⟨?_, fun idle => ?idle, fun busy => ?busy, fun halted => dmasrRead_idle_of_halted halted d, ?_, ?_, ?_, ?_, ?_,
    ?_, ?_, ?_, ?_, ?_, dmasrRead_countdown e d, fun i hi => getLsbD_dmasrRead_drawn e d (dmasrMask_drawn e.phase i hi)⟩
  case idle => rw [dmasrRead_idle_of_not_halted (by simp [idle]), idle, beq_self_eq_true]
  case busy => rcases busy with h | h | h <;> rw [dmasrRead_idle_of_not_halted (by simp [h]), h] <;> rfl
  all_goals
    rw [getLsbD_dmasrRead_channel e d (by decide) (dmasrMask_channel e.phase _ (by decide)),
      getLsbD_dmasrFields e (by decide)]
    simp

end Sys2Proof.Machine
end

section
/-! Which operations write which parts of the state, and that no error bit of DMASR is lost: what each operation can do to
them, and the statements of 10_state.md (R43, R54, R55, R60, R64, R65, R75; 20_memory.md R106; 60_exceptions.md R421). -/

namespace Sys2Proof.Machine

/-! The parts of the state. -/

/-- The parts of the state that few operations write: the parameters, the engines, the host's masks and store buffer, the
driver's records and the logs. -/
structure Parts where
  cfg : Params
  eng : Pair Eng
  rstBusy : Bool
  gie : Bool
  lines : Pair Line
  sb : List SbEntry
  ch : Pair Record
  ctl : CtlState
  cblog : List CbEntry
  outs : List OutLeg
  logs : List String

def State.parts (s : State) : Parts :=
  ⟨s.cfg, s.eng, s.rstBusy, s.gie, s.lines, s.sb, s.ch, s.ctl, s.cblog, s.outs, s.logs⟩

@[simp] theorem State.parts_answer (s : State) (v : Value) : (s.answer v).parts = s.parts := rfl
@[simp] theorem State.parts_setCache (s : State) (ls : List CacheLine) : (s.setCache ls).parts = s.parts := rfl
@[simp] theorem State.parts_spend (s : State) (k : Nat) : (s.spend k).parts = s.parts := rfl

@[simp] theorem State.parts_fillLine (s : State) (x : Nat) : (s.fillLine x).parts = s.parts := by
  obtain ⟨ls, h⟩ := s.fillLine_eq x
  rw [h, State.parts_setCache]

@[simp] theorem State.parts_afterLoad (s : State) (a : Addr) : (s.afterLoad a).parts = s.parts := by
  obtain ⟨ls, ds, n, h⟩ := s.afterLoad_eq a
  rw [h]
  rfl

@[simp] theorem State.parts_drainBytes (s : State) (alloc : Bool) (x : Nat) (bs : List Byte) :
    (s.drainBytes alloc x bs).parts = s.parts := by
  obtain ⟨m, ls, h⟩ := s.drainBytes_eq alloc x bs
  rw [h]
  rfl

@[simp] theorem State.sb_drainBytes (s : State) (alloc : Bool) (x : Nat) (bs : List Byte) :
    (s.drainBytes alloc x bs).sb = s.sb :=
  congrArg Parts.sb (s.parts_drainBytes alloc x bs)

@[simp] theorem State.parts_flush (s : State) (a n : Nat) : (s.flush a n).parts = s.parts := by
  obtain ⟨m, ls, h⟩ := s.flush_eq a n
  rw [h]
  rfl

@[simp] theorem State.parts_invalidate (s : State) (a n : Nat) : (s.invalidate a n).parts = s.parts := by
  obtain ⟨ls, h⟩ := s.invalidate_eq a n
  rw [h, State.parts_setCache]

/-- The parts `o`, those that the operation may write taken from `u`. -/
def mayWrite (i : Instr) (o u : Parts) : Parts :=
  match i with
  | .wrTxDmacr _ | .wrRxDmacr _ =>
    { o with eng := u.eng, rstBusy := if asksReset i then u.rstBusy else o.rstBusy }
  | .wrTxDmasr _ | .wrTxCurdescLsb _ | .wrTxCurdescMsb _ | .wrTxTaildescLsb _ | .wrTxTaildescMsb _
  | .wrRxDmasr _ | .wrRxCurdescLsb _ | .wrRxCurdescMsb _ | .wrRxTaildescLsb _ | .wrRxTaildescMsb _
  | .eHalt _ | .eFetch _ | .eXferRx | .eWb _ | .eDelay _ => { o with eng := u.eng }
  | .eXferTx => { o with eng := u.eng, outs := u.outs }
  | .eResetDone => { o with rstBusy := u.rstBusy }
  | .st32 _ _ | .envDrain => { o with sb := u.sb }
  | .irqEnable _ | .irqDisable _ => { o with lines := u.lines }
  | .csEnter _ | .csExit _ => { o with gie := u.gie, lines := u.lines }
  | .callback _ _ => { o with cblog := u.cblog }
  | .log _ => { o with logs := u.logs }
  | .init => { o with ch := u.ch, ctl := u.ctl }
  | _ => o

/-! The error bits of DMASR (10_state.md R43). -/

/-- Every error bit set in `a` is set in `b`. -/
structure KeepsErrors (a b : Dmasr) : Prop where
  dmaIntErr : a.dmaIntErr = true → b.dmaIntErr = true
  dmaSlvErr : a.dmaSlvErr = true → b.dmaSlvErr = true
  dmaDecErr : a.dmaDecErr = true → b.dmaDecErr = true
  sgIntErr : a.sgIntErr = true → b.sgIntErr = true
  sgSlvErr : a.sgSlvErr = true → b.sgSlvErr = true
  sgDecErr : a.sgDecErr = true → b.sgDecErr = true

theorem KeepsErrors.refl (a : Dmasr) : KeepsErrors a a := ⟨id, id, id, id, id, id⟩

theorem setSgErr_keepsErrors (r : XResp) (a : Dmasr) : KeepsErrors a (setSgErr r a) := by
  cases r <;> constructor <;> simp +contextual [setSgErr]

theorem setDmaErr_keepsErrors (r : XResp) (a : Dmasr) : KeepsErrors a (setDmaErr r a) := by
  cases r <;> constructor <;> simp +contextual [setDmaErr]

theorem errorCompletion_keepsErrors {a : Dmasr} {e : Eng} (h : KeepsErrors a e.sr) :
    KeepsErrors a (errorCompletion e).sr := { h with }

theorem completionEvent_keepsErrors {a : Dmasr} {e : Eng} (h : KeepsErrors a e.sr) :
    KeepsErrors a (completionEvent e).sr := by
  unfold completionEvent
  split
  · exact { h with }
  · exact h

theorem fetchError_keepsErrors (r : XResp) (e : Eng) : KeepsErrors e.sr (fetchError r e).sr :=
  errorCompletion_keepsErrors (setSgErr_keepsErrors r e.sr)

theorem wbRefused_keepsErrors (r : BusResp) (e : Eng) : KeepsErrors e.sr (wbRefused r e).sr :=
  errorCompletion_keepsErrors (setSgErr_keepsErrors (.ofBus r) e.sr)

theorem wbDone_keepsErrors (e : Eng) : KeepsErrors e.sr (wbDone e).sr := by
  unfold wbDone
  split
  · exact completionEvent_keepsErrors (.refl e.sr)
  · exact errorCompletion_keepsErrors (completionEvent_keepsErrors (setDmaErr_keepsErrors _ e.sr))

theorem delayFired_keepsErrors (e : Eng) : KeepsErrors e.sr (delayFired e).sr := ⟨id, id, id, id, id, id⟩

theorem ackDmasr_keepsErrors (e : Eng) (v : Word) : KeepsErrors e.sr (ackDmasr e v).sr := ⟨id, id, id, id, id, id⟩

theorem writeCr_keepsErrors (e : Eng) (v : Word) (t : BitVec 8) : KeepsErrors e.sr (writeCr e v t).sr := by
  simp only [writeCr, writeThreshold]
  split <;> exact .refl e.sr

/-! The operations on an engine: register writes (40_register_interface.md) and the engine's own steps
(42_engine_sequencer.md). -/

/-- From `s` to `t` one channel's engine is written, no error bit of its DMASR is lost, and no other part changes. -/
def WritesEngine (c : Chan) (s t : State) : Prop :=
  ∃ e, t.parts = { s.parts with eng := s.eng.set c e } ∧ KeepsErrors (s.eng.get c).sr e.sr

theorem WritesEngine.refl (c : Chan) (s : State) : WritesEngine c s s :=
  ⟨s.eng.get c, by rw [Pair.set_get]; rfl, .refl _⟩

theorem WritesEngine.parts {c : Chan} {s t : State} (h : WritesEngine c s t) :
    t.parts = { s.parts with eng := t.eng } := by
  obtain ⟨e, hp, -⟩ := h
  have he : t.eng = s.eng.set c e := congrArg Parts.eng hp
  rw [hp, he]

theorem WritesEngine.keepsErrors {c : Chan} {s t : State} (h : WritesEngine c s t) (d : Chan) :
    KeepsErrors (s.eng.get d).sr (t.eng.get d).sr := by
  obtain ⟨e, hp, he⟩ := h
  have ht : t.eng = s.eng.set c e := congrArg Parts.eng hp
  rw [ht]
  by_cases hd : d = c
  · rw [hd, Pair.get_set_self]
    exact he
  · rw [Pair.get_set_other _ _ hd]
    exact .refl _

/-- A step that is taken only where it is enabled does, at most, what it does when taken. -/
theorem writesEngine_whenEnabled {b : Bool} {c : Chan} {s t : State} {r : Res} (h : whenEnabled b s r = .next t)
    (hr : r = .next t → WritesEngine c s t) : WritesEngine c s t := by
  rcases whenEnabled_next.1 h with ⟨-, h⟩ | ⟨-, rfl⟩
  · exact hr h
  · exact .refl c s

/-- What a register write can do: a soft reset through DMACR, or else to one engine (R181 to R188). -/
theorem mmioWrite_next {c : Chan} {r : Reg} {v : Word} {s t : State} (h : mmioWrite c r v s = .next t) :
    (asksReset (wrInstr c r v) = true ∧ s.softReset.answer .unit = t) ∨ WritesEngine c s t := by
  unfold mmioWrite at h
  split at h
  · cases h
  cases r with
  | dmacr =>
    obtain ⟨-, -, ⟨hv, ht⟩ | ⟨-, -, rfl⟩ | ⟨-, -, rfl⟩⟩ := writeDmacr_next.1 h
    · exact .inl ⟨by cases c <;> exact hv, ht⟩
    all_goals exact .inr ⟨_, rfl, writeCr_keepsErrors _ v _⟩
  | dmasr =>
    cases h
    exact .inr ⟨_, rfl, ackDmasr_keepsErrors _ v⟩
  | curdescLsb =>
    obtain ⟨-, -, rfl⟩ := writeCurdescLsb_next.1 h
    exact .inr ⟨_, rfl, .refl _⟩
  | curdescMsb =>
    obtain ⟨-, rfl⟩ := writeCurdescMsb_next.1 h
    exact .inr ⟨_, rfl, .refl _⟩
  | taildescLsb =>
    obtain ⟨-, rfl⟩ := writeTaildescLsb_next.1 h
    exact .inr ⟨_, rfl, .refl _⟩
  | taildescMsb =>
    cases h
    exact .inr ⟨_, rfl, .refl _⟩

theorem mmioWrite_parts {c : Chan} {r : Reg} {v : Word} {s t : State} (h : mmioWrite c r v s = .next t) :
    t.parts = { s.parts with
      eng := t.eng, rstBusy := if asksReset (wrInstr c r v) then t.rstBusy else s.rstBusy } := by
  rcases mmioWrite_next h with ⟨hv, rfl⟩ | hw
  · rw [if_pos hv]
    rfl
  · have hb : t.rstBusy = s.rstBusy := congrArg Parts.rstBusy hw.parts
    rw [hb, ite_self, hw.parts]
    rfl

theorem mmioWrite_keepsErrors {c : Chan} {r : Reg} {v : Word} {s t : State} (h : mmioWrite c r v s = .next t)
    (hv : asksReset (wrInstr c r v) = false) (d : Chan) : KeepsErrors (s.eng.get d).sr (t.eng.get d).sr := by
  rcases mmioWrite_next h with ⟨hv', -⟩ | hw
  · exact absurd (hv.symm.trans hv') Bool.false_ne_true
  · exact hw.keepsErrors d

theorem execEHalt_writesEngine {c : Chan} {s t : State} (h : execEHalt c s = .next t) : WritesEngine c s t := by
  refine writesEngine_whenEnabled h fun h => ?_
  cases h
  exact ⟨_, rfl, .refl _⟩

theorem execEFetch_writesEngine {c : Chan} {s t : State} (h : execEFetch c s = .next t) : WritesEngine c s t := by
  refine writesEngine_whenEnabled h fun h => ?_
  cases h
  simp only [fetchStep]
  split
  · split
    · exact ⟨_, rfl, fetchError_keepsErrors _ _⟩
    · split <;> exact ⟨_, rfl, .refl _⟩
  · exact ⟨_, rfl, fetchError_keepsErrors _ _⟩
  · exact ⟨_, rfl, fetchError_keepsErrors _ _⟩

/-- E_XFER TX writes its engine, and the outbound stream beside it (R258). -/
theorem execEXferTx_writesEngine {s t : State} (h : execEXferTx s = .next t) :
    WritesEngine .tx s { t with outs := s.outs } := by
  rcases whenEnabled_next.1 h with ⟨-, h⟩ | ⟨-, rfl⟩
  · simp only [xferTxStep] at h
    split at h <;> cases h <;> exact ⟨_, rfl, .refl _⟩
  · exact .refl .tx s

theorem execEXferTx_parts {s t : State} (h : execEXferTx s = .next t) :
    t.parts = { s.parts with eng := t.eng, outs := t.outs } :=
  congrArg (fun p : Parts => { p with outs := t.outs }) (execEXferTx_writesEngine h).parts

theorem execEXferRx_writesEngine {s t : State} (h : execEXferRx s = .next t) : WritesEngine .rx s t := by
  refine writesEngine_whenEnabled h fun h => ?_
  simp only [xferRxStep] at h
  split at h <;> cases h <;> exact ⟨_, rfl, .refl _⟩

theorem execEWb_writesEngine {c : Chan} {s t : State} (h : execEWb c s = .next t) : WritesEngine c s t := by
  refine writesEngine_whenEnabled h fun h => ?_
  obtain ⟨m, r, hm, -⟩ := s.memWrites_eq (wbWrites c (s.eng.get c).snap.addr (s.eng.get c).xres)
  simp only [wbStep, hm] at h
  split at h
  · cases r with
    | okay =>
      simp only at h
      split at h <;> cases h
      exact ⟨_, rfl, wbDone_keepsErrors _⟩
    | slverr | decerr =>
      cases h
      exact ⟨_, rfl, wbRefused_keepsErrors _ _⟩
  · cases h
    exact ⟨_, rfl, wbRefused_keepsErrors _ _⟩

theorem execEDelay_writesEngine {c : Chan} {s t : State} (h : execEDelay c s = .next t) : WritesEngine c s t := by
  refine writesEngine_whenEnabled h fun h => ?_
  cases h
  exact ⟨_, rfl, delayFired_keepsErrors _⟩

/-! The other operations, from the host primitives to the environment's steps. -/

/-- A step to a state with the same parts. -/
theorem parts_of_next {s t u : State} (h : (.next u : Res) = .next t) (hu : u.parts = s.parts) : t.parts = s.parts := by
  cases h
  exact hu

/-- An internal procedure's entry checks write nothing (43_ring.md R310). -/
theorem withReady_parts {c : Nat} {s t : State} {f : Chan → Res} (h : withReady c s f = .next t)
    (hf : ∀ ch, f ch = .next t → t.parts = s.parts) : t.parts = s.parts := by
  obtain ⟨ch, -, -, h⟩ := withReady_next.1 h
  exact hf ch h

/-- A framework entry point's checks write nothing (44_channel.md R330). -/
theorem withChannel_parts {c : Nat} {s t : State} {f : Chan → Res} (h : withChannel c s f = .next t)
    (hf : ∀ ch, f ch = .next t → t.parts = s.parts) : t.parts = s.parts := by
  rcases withChannel_next.1 h with ⟨-, rfl⟩ | ⟨ch, -, -, h⟩
  · rfl
  · exact hf ch h

theorem execLd32_parts {a : Addr} {s t : State} (h : execLd32 a s = .next t) : t.parts = s.parts := by
  unfold execLd32 at h
  split at h
  · cases h
  · split at h
    · cases h
    · exact parts_of_next h (by simp)

theorem execSt32_parts {a : Addr} {v : Word} {s t : State} (h : execSt32 a v s = .next t) :
    t.parts = { s.parts with sb := t.sb } := by
  unfold execSt32 at h
  split at h <;> cases h
  rfl

theorem execFence_parts {s t : State} (h : execFence s = .next t) : t.parts = s.parts := by
  unfold execFence at h
  split at h <;> exact parts_of_next h rfl

theorem execCsEnter_parts {c : Nat} {s t : State} (h : execCsEnter c s = .next t) :
    t.parts = { s.parts with gie := t.gie, lines := t.lines } := by
  unfold execCsEnter at h
  split at h
  · cases h
    rfl
  · cases h
    rfl
  · split at h
    · cases h
    · obtain ⟨o, -, rfl⟩ := onLine_next.1 h
      rfl

theorem execCsExit_parts {k : Key} {s t : State} (h : execCsExit k s = .next t) :
    t.parts = { s.parts with gie := t.gie, lines := t.lines } := by
  cases k with
  | global | both =>
    cases h
    rfl
  | line =>
    obtain ⟨o, -, rfl⟩ := onLine_next.1 h
    rfl

theorem execCallback_parts {c : Nat} {r : CbResult} {s t : State} (h : execCallback c r s = .next t) :
    t.parts = { s.parts with cblog := t.cblog } := by
  unfold execCallback at h
  split at h <;> cases h
  rfl

theorem execConfigure_parts {c : Nat} {req : CfgReq} {s t : State} (h : execConfigure c req s = .next t) :
    t.parts = s.parts := by
  refine withChannel_parts h fun ch h => ?_
  split at h
  · cases h
  · split at h
    · exact parts_of_next h rfl
    · split at h <;> exact parts_of_next h rfl

theorem execInit_parts {s t : State} (h : execInit s = .next t) :
    t.parts = { s.parts with ch := t.ch, ctl := t.ctl } := by
  unfold execInit at h
  split at h
  · cases h
  · split at h <;> cases h <;> rfl

theorem execEResetDone_parts {s t : State} (h : execEResetDone s = .next t) :
    t.parts = { s.parts with rstBusy := t.rstBusy } := by
  rcases whenEnabled_next.1 h with ⟨-, h⟩ | ⟨-, rfl⟩
  · cases h
    rfl
  · rfl

theorem execEnvDrain_parts {s t : State} (h : execEnvDrain s = .next t) :
    t.parts = { s.parts with sb := t.sb } := by
  rcases whenEnabled_next.1 h with ⟨-, h⟩ | ⟨-, rfl⟩
  · simp only [drainStep] at h
    split at h
    · cases h
      rfl
    · split at h <;> cases h
      rw [State.parts_spend, State.parts_drainBytes, State.spend_sb, State.sb_drainBytes]
      rfl
  · rfl

theorem execEnvEvict_parts {s t : State} (h : execEnvEvict s = .next t) : t.parts = s.parts := by
  unfold execEnvEvict at h
  split at h <;> exact parts_of_next h rfl

theorem execEnvFill_parts {s t : State} (h : execEnvFill s = .next t) : t.parts = s.parts := by
  rcases whenEnabled_next.1 h with ⟨-, h⟩ | ⟨-, rfl⟩
  · exact parts_of_next h (by simp)
  · rfl

theorem execIrqTake_parts {c : Chan} {s t : State} (h : execIrqTake c s = .next t) : t.parts = s.parts := by
  rcases whenEnabled_next.1 h with ⟨-, h⟩ | ⟨-, rfl⟩
  · exact parts_of_next h rfl
  · rfl

/-! Every operation. -/

/-- What an operation leaves of the parts: each one that `mayWrite` does not name for it. -/
theorem exec_parts {i : Instr} {s t : State} (h : exec i s = .next t) : t.parts = mayWrite i s.parts t.parts := by
  cases i with
  | rdTxDmacr | rdTxDmasr | rdTxCurdescLsb | rdTxCurdescMsb | rdTxTaildescLsb | rdTxTaildescMsb
  | rdRxDmacr | rdRxDmasr | rdRxCurdescLsb | rdRxCurdescMsb | rdRxTaildescLsb | rdRxTaildescMsb
  | sleep | chanFilter | log =>
    cases h
    rfl
  | wrTxDmacr v | wrTxDmasr v | wrTxCurdescLsb v | wrTxCurdescMsb v | wrTxTaildescLsb v | wrTxTaildescMsb v
  | wrRxDmacr v | wrRxDmasr v | wrRxCurdescLsb v | wrRxCurdescMsb v | wrRxTaildescLsb v | wrRxTaildescMsb v =>
    simp only [exec] at h
    exact mmioWrite_parts h
  | ld32 => exact execLd32_parts h
  | st32 => exact execSt32_parts h
  | dcFlush => exact parts_of_next h (s.parts_flush _ _)
  | dcInval => exact parts_of_next h (s.parts_invalidate _ _)
  | fence => exact execFence_parts h
  | irqEnable | irqDisable | irqIsEnabled =>
    obtain ⟨o, -, rfl⟩ := onLine_next.1 h
    rfl
  | csEnter => exact execCsEnter_parts h
  | csExit => exact execCsExit_parts h
  | callback => exact execCallback_parts h
  | relink | isr => exact withReady_parts h fun ch h => parts_of_next h rfl
  | populate | reclaim => exact withReady_parts h fun ch h => parts_of_next (whenConfigured_next.1 h).2 rfl
  | start => exact withChannel_parts h fun ch h => parts_of_next (whenConfigured_next.1 h).2 rfl
  | stop | getStatus | reload => exact withChannel_parts h fun ch h => parts_of_next h rfl
  | configure => exact execConfigure_parts h
  | init => exact execInit_parts h
  | eHalt => exact (execEHalt_writesEngine h).parts
  | eFetch => exact (execEFetch_writesEngine h).parts
  | eXferTx => exact execEXferTx_parts h
  | eXferRx => exact (execEXferRx_writesEngine h).parts
  | eWb => exact (execEWb_writesEngine h).parts
  | eDelay => exact (execEDelay_writesEngine h).parts
  | eResetDone => exact execEResetDone_parts h
  | envDrain => exact execEnvDrain_parts h
  | envEvict => exact execEnvEvict_parts h
  | envFill => exact execEnvFill_parts h
  | irqTake => exact execIrqTake_parts h

/-- The DMASR of either channel loses no error bit, unless the operation asks for a soft reset (10_state.md R54). -/
theorem exec_keepsErrors {i : Instr} {s t : State} (h : exec i s = .next t) (hi : asksReset i = false) (d : Chan) :
    KeepsErrors (s.eng.get d).sr (t.eng.get d).sr := by
  cases i with
  | wrTxDmacr v | wrTxDmasr v | wrTxCurdescLsb v | wrTxCurdescMsb v | wrTxTaildescLsb v | wrTxTaildescMsb v
  | wrRxDmacr v | wrRxDmasr v | wrRxCurdescLsb v | wrRxCurdescMsb v | wrRxTaildescLsb v | wrRxTaildescMsb v =>
    simp only [exec] at h
    exact mmioWrite_keepsErrors h hi d
  | eHalt => exact (execEHalt_writesEngine h).keepsErrors d
  | eFetch => exact (execEFetch_writesEngine h).keepsErrors d
  | eXferTx => exact (execEXferTx_writesEngine h).keepsErrors d
  | eXferRx => exact (execEXferRx_writesEngine h).keepsErrors d
  | eWb => exact (execEWb_writesEngine h).keepsErrors d
  | eDelay => exact (execEDelay_writesEngine h).keepsErrors d
  | _ =>
    have same : t.eng = s.eng := congrArg Parts.eng (exec_parts h)
    rw [same]
    exact .refl _

/-- Settles O57: every operation but a soft reset keeps the error bits of both channels. -/
theorem errorBitsAreSticky : Obligations.ErrorBitsAreSticky := by
  intro i s t c h hi
  obtain ⟨dmaInt, dmaSlv, dmaDec, sgInt, sgSlv, sgDec⟩ := exec_keepsErrors h hi c
  exact ⟨dmaInt, dmaSlv, dmaDec, sgInt, sgSlv, sgDec⟩

/-- Settles O56: a part that differs after an operation is one that the operation may write. -/
theorem whoWritesWhat : Obligations.WhoWritesWhat := by
  intro i s t h
  have hp := exec_parts h
  refine ⟨?cfg, fun ne => ?gie, fun ne => ?lines, fun ne => ?sb, fun ne => ?ctl, fun ne => ?ch, fun ne => ?cblog,
    fun ne => ?outs, fun ne => ?logs, fun ne => ?rstBusy⟩
  case cfg => cases i <;> exact congrArg Parts.cfg hp
  case gie =>
    cases i with
    | csEnter c => exact .inl ⟨c, rfl⟩
    | csExit k => exact .inr ⟨k, rfl⟩
    | _ => exact absurd (congrArg Parts.gie hp) ne
  case lines =>
    cases i with
    | irqEnable l => exact .inl ⟨l, rfl⟩
    | irqDisable l => exact .inr (.inl ⟨l, rfl⟩)
    | csEnter c => exact .inr (.inr (.inl ⟨c, rfl⟩))
    | csExit k => exact .inr (.inr (.inr ⟨k, rfl⟩))
    | _ => exact absurd (congrArg Parts.lines hp) ne
  case sb =>
    cases i with
    | st32 a v => exact .inl ⟨a, v, rfl⟩
    | envDrain => exact .inr rfl
    | _ => exact absurd (congrArg Parts.sb hp) ne
  case ctl =>
    cases i with
    | init => rfl
    | _ => exact absurd (congrArg Parts.ctl hp) ne
  case ch =>
    cases i with
    | init => rfl
    | _ => exact absurd (congrArg Parts.ch hp) ne
  case cblog =>
    cases i with
    | callback c r => exact ⟨c, r, rfl⟩
    | _ => exact absurd (congrArg Parts.cblog hp) ne
  case outs =>
    cases i with
    | eXferTx => rfl
    | _ => exact absurd (congrArg Parts.outs hp) ne
  case logs =>
    cases i with
    | log m => exact ⟨m, rfl⟩
    | _ => exact absurd (congrArg Parts.logs hp) ne
  case rstBusy =>
    cases i with
    | wrTxDmacr v | wrRxDmacr v => exact .inl (by_contra fun hv => ne ((congrArg Parts.rstBusy hp).trans (if_neg hv)))
    | eResetDone => exact .inr rfl
    | _ => exact absurd (congrArg Parts.rstBusy hp) ne

end Sys2Proof.Machine
end

section
/-! The host's memory path, one rule per operation: the cache as a list of lines by rising base, the store buffer, and
one byte drained (20_memory.md R106 to R108, R124). -/

namespace Sys2Proof.Machine

/-! The cache as a map from bases to lines (R124). -/

theorem basesRise_iff {ls : List CacheLine} : basesRise ls = true ↔ ls.Pairwise fun k l => k.base < l.base := by
  induction ls with
  | nil => simp [basesRise]
  | cons l t ih => simp [basesRise, ih]

theorem basesRise_cons {l : CacheLine} {t : List CacheLine} :
    basesRise (l :: t) = true ↔ (∀ k ∈ t, l.base < k.base) ∧ basesRise t = true := by
  simp [basesRise]

theorem cacheFind_eq_none {ls : List CacheLine} {base : Nat} :
    cacheFind ls base = none ↔ ∀ l ∈ ls, l.base ≠ base := by
  simp [cacheFind]

theorem cacheFind_some {ls : List CacheLine} {base : Nat} {l : CacheLine} (h : cacheFind ls base = some l) :
    l ∈ ls ∧ l.base = base :=
  ⟨List.mem_of_find?_eq_some h, by simpa using List.find?_some h⟩

/-- Lines of strictly rising bases with one base are one line. -/
theorem eq_of_base_eq {ls : List CacheLine} (hr : basesRise ls = true) {k l : CacheLine} (hk : k ∈ ls) (hl : l ∈ ls)
    (h : k.base = l.base) : k = l := by
  have distinct : (ls.map CacheLine.base).Nodup := List.pairwise_map.2 ((basesRise_iff.1 hr).imp Nat.ne_of_lt)
  exact List.inj_on_of_nodup_map distinct hk hl h

theorem cacheFind_of_mem {ls : List CacheLine} (hr : basesRise ls = true) {l : CacheLine} (hl : l ∈ ls) :
    cacheFind ls l.base = some l := by
  cases hf : cacheFind ls l.base with
  | none => exact absurd rfl (cacheFind_eq_none.1 hf l hl)
  | some k =>
    obtain ⟨hk, hb⟩ := cacheFind_some hf
    rw [eq_of_base_eq hr hk hl hb]

/-- A line that is put is found at its base, and every other base finds what it found. -/
theorem cacheFind_cachePut (ls : List CacheLine) (x : CacheLine) (base : Nat) :
    cacheFind (cachePut ls x) base = if base = x.base then some x else cacheFind ls base := by
  induction ls with
  | nil =>
    by_cases h : base = x.base
    · simp [cachePut, cacheFind, h]
    · simp [cachePut, cacheFind, h, Ne.symm h]
  | cons l t ih =>
    unfold cacheFind at ih ⊢
    unfold cachePut
    split_ifs <;> grind

/-- A line put where none has its base joins the others. -/
theorem mem_cachePut_new {ls : List CacheLine} {x : CacheLine} (hx : ∀ l ∈ ls, l.base ≠ x.base) (k : CacheLine) :
    k ∈ cachePut ls x ↔ k ∈ ls ∨ k = x := by
  induction ls with
  | nil => simp [cachePut]
  | cons l t ih =>
    have hl := hx l (by simp)
    have ht := ih fun m hm => hx m (by simp [hm])
    unfold cachePut
    split_ifs <;> grind

/-- A line that is put takes the place of the one with its base. -/
theorem mem_cachePut {ls : List CacheLine} (hr : basesRise ls = true) (x k : CacheLine) :
    k ∈ cachePut ls x ↔ (k ∈ ls ∧ k.base ≠ x.base) ∨ k = x := by
  induction ls with
  | nil => simp [cachePut]
  | cons l t ih =>
    obtain ⟨hl, ht⟩ := basesRise_cons.1 hr
    unfold cachePut
    split_ifs with h1 h2
    · grind
    · grind
    · grind

theorem cachePut_basesRise {ls : List CacheLine} (hr : basesRise ls = true) (x : CacheLine) :
    basesRise (cachePut ls x) = true := by
  induction ls with
  | nil => simp [cachePut, basesRise]
  | cons l t ih =>
    obtain ⟨hl, ht⟩ := basesRise_cons.1 hr
    unfold cachePut
    split_ifs with h1 h2
    · exact basesRise_cons.2 ⟨by grind, hr⟩
    · exact basesRise_cons.2 ⟨by grind, ht⟩
    · refine basesRise_cons.2 ⟨fun k hk => ?_, ih ht⟩
      rcases (mem_cachePut ht x k).1 hk with ⟨hk, -⟩ | rfl
      · exact hl k hk
      · omega

theorem cacheLegal_iff {p : Params} {ls : List CacheLine} :
    cacheLegal p ls = true ↔
      (p.cacheMode = .noncoherent ∨ ls = []) ∧ basesRise ls = true ∧ ∀ l ∈ ls, lineLegal p l = true := by
  simp [cacheLegal, and_assoc]

theorem lineLegal_iff {p : Params} {l : CacheLine} :
    lineLegal p l = true ↔ l.base % p.line = 0 ∧ l.base < 2 ^ 64 ∧ l.bytes.length = p.line := by
  simp [lineLegal, and_assoc]

theorem cachePut_cacheLegal {p : Params} {ls : List CacheLine} {x : CacheLine} (h : cacheLegal p ls = true)
    (hm : p.cacheMode = .noncoherent) (hx : lineLegal p x = true) : cacheLegal p (cachePut ls x) = true := by
  obtain ⟨-, hr, hl⟩ := cacheLegal_iff.1 h
  refine cacheLegal_iff.2 ⟨.inl hm, cachePut_basesRise hr x, fun k hk => ?_⟩
  rcases (mem_cachePut hr x k).1 hk with ⟨hk, -⟩ | rfl
  · exact hl k hk
  · exact hx

theorem filter_cacheLegal {p : Params} {ls : List CacheLine} (h : cacheLegal p ls = true) (q : CacheLine → Bool) :
    cacheLegal p (ls.filter q) = true := by
  obtain ⟨hm, hr, hl⟩ := cacheLegal_iff.1 h
  refine cacheLegal_iff.2 ⟨hm.imp_right fun h => by rw [h]; rfl, ?_, fun k hk => hl k (List.mem_of_mem_filter hk)⟩
  exact basesRise_iff.2 ((basesRise_iff.1 hr).filter q)

theorem cleanLine_lineLegal (p : Params) (m : Memory) {x : Nat} (hx : x < 2 ^ 64) :
    lineLegal p (cleanLine p m (lineBase p x)) = true :=
  lineLegal_iff.2 ⟨Nat.mul_mod_left _ _, (Nat.div_mul_le_self x p.line).trans_lt hx, Memory.readBytes_length _ _ _⟩

theorem dirtied_lineLegal {p : Params} {l : CacheLine} (h : lineLegal p l = true) (x : Nat) (b : Byte) :
    lineLegal p (dirtied l x b) = true := by
  obtain ⟨h1, h2, h3⟩ := lineLegal_iff.1 h
  exact lineLegal_iff.2 ⟨h1, h2, by simpa [dirtied] using h3⟩

theorem cacheable_noncoherent {p : Params} {x : Nat} (h : cacheable p x = true) : p.cacheMode = .noncoherent := by
  unfold cacheable at h
  simp_all

theorem cacheable_of_noncoherent {p : Params} (hm : p.cacheMode = .noncoherent) (x : Nat) :
    cacheable p x = !uncachedRing p x := by
  simp [cacheable, hm]

/-! One byte of a draining store, by the place it goes to (R107). -/

theorem State.drainByte_uncached {s : State} {x : Nat} (h : cacheable s.cfg x = false) (alloc : Bool) (b : Byte) :
    s.drainByte alloc x b = s.setMem (s.mem.write x b) := by
  simp [State.drainByte, h]

theorem State.drainByte_hit {s : State} {x : Nat} {l : CacheLine} (h : cacheable s.cfg x = true)
    (hl : cacheFind s.cache (lineBase s.cfg x) = some l) (alloc : Bool) (b : Byte) :
    s.drainByte alloc x b = s.setCache (cachePut s.cache (dirtied l x b)) := by
  simp [State.drainByte, h, hl]

theorem State.drainByte_fill {s : State} {x : Nat} (h : cacheable s.cfg x = true)
    (hl : cacheFind s.cache (lineBase s.cfg x) = none) (b : Byte) :
    s.drainByte true x b =
      s.setCache (cachePut s.cache (dirtied (cleanLine s.cfg s.mem (lineBase s.cfg x)) x b)) := by
  simp [State.drainByte, h, hl]

theorem State.drainByte_around {s : State} {x : Nat} (h : cacheable s.cfg x = true)
    (hl : cacheFind s.cache (lineBase s.cfg x) = none) (b : Byte) :
    s.drainByte false x b = s.setMem (s.mem.write x b) := by
  simp [State.drainByte, h, hl]

/-- The line of an address: the cached one, or else the one a fill would copy from memory. -/
def State.lineAt (s : State) (x : Nat) : CacheLine :=
  (cacheFind s.cache (lineBase s.cfg x)).getD (cleanLine s.cfg s.mem (lineBase s.cfg x))

theorem State.lineAt_base (s : State) (x : Nat) : (s.lineAt x).base = lineBase s.cfg x := by
  unfold State.lineAt
  cases h : cacheFind s.cache (lineBase s.cfg x) with
  | none => rfl
  | some l => exact (cacheFind_some h).2

theorem State.lineAt_lineLegal {s : State} (h : cacheLegal s.cfg s.cache = true) {x : Nat} (hx : x < 2 ^ 64) :
    lineLegal s.cfg (s.lineAt x) = true := by
  obtain ⟨-, -, legal⟩ := cacheLegal_iff.1 h
  unfold State.lineAt
  cases hf : cacheFind s.cache (lineBase s.cfg x) with
  | none => exact cleanLine_lineLegal s.cfg s.mem hx
  | some l => exact legal l (cacheFind_some hf).1

/-- A drained byte goes to memory, its line not being cached; or into the line of its address, which is put in the
cache. -/
theorem State.drainByte_cases (s : State) (alloc : Bool) (x : Nat) (b : Byte) :
    (s.drainByte alloc x b = s.setMem (s.mem.write x b) ∧
      (cacheable s.cfg x = true → cacheFind s.cache (lineBase s.cfg x) = none)) ∨
    (s.drainByte alloc x b = s.setCache (cachePut s.cache (dirtied (s.lineAt x) x b)) ∧ cacheable s.cfg x = true) := by
  unfold State.lineAt
  cases hc : cacheable s.cfg x with
  | false => exact .inl ⟨State.drainByte_uncached hc alloc b, fun h => absurd h Bool.false_ne_true⟩
  | true =>
    cases hl : cacheFind s.cache (lineBase s.cfg x) with
    | some l => exact .inr ⟨State.drainByte_hit hc hl alloc b, rfl⟩
    | none =>
      cases alloc with
      | false => exact .inl ⟨State.drainByte_around hc hl b, fun _ => rfl⟩
      | true => exact .inr ⟨State.drainByte_fill hc hl b, rfl⟩

@[simp] theorem State.drainByte_cfg (s : State) (alloc : Bool) (x : Nat) (b : Byte) :
    (s.drainByte alloc x b).cfg = s.cfg := by
  rcases s.drainByte_cases alloc x b with ⟨h, -⟩ | ⟨h, -⟩ <;> rw [h] <;> rfl

theorem State.drainByte_cacheLegal {s : State} (h : cacheLegal s.cfg s.cache = true) (alloc : Bool) {x : Nat}
    (hx : x < 2 ^ 64) (b : Byte) : cacheLegal s.cfg (s.drainByte alloc x b).cache = true := by
  rcases s.drainByte_cases alloc x b with ⟨hd, -⟩ | ⟨hd, hc⟩ <;> rw [hd]
  · exact h
  · exact cachePut_cacheLegal h (cacheable_noncoherent hc) (dirtied_lineLegal (State.lineAt_lineLegal h hx) x b)

theorem State.drainBytes_cacheLegal {s : State} (h : cacheLegal s.cfg s.cache = true) (alloc : Bool) (x : Nat)
    (bs : List Byte) : cacheLegal s.cfg (s.drainBytes alloc x bs).cache = true := by
  induction bs generalizing s x with
  | nil => exact h
  | cons b bs ih =>
    have hb := State.drainByte_cacheLegal h alloc (Nat.mod_lt x (show 0 < 2 ^ 64 by decide)) b
    rw [← s.drainByte_cfg alloc (x % 2 ^ 64) b] at hb ⊢
    exact ih hb (x + 1)

/-! Fills, and the cache after a load and after maintenance (R108, R124). -/

theorem State.fillLine_cacheLegal {s : State} (h : cacheLegal s.cfg s.cache = true) {x : Nat} (hx : x < 2 ^ 64) :
    cacheLegal s.cfg (s.fillLine x).cache = true := by
  unfold State.fillLine
  split
  · rename_i hc
    rw [Bool.and_eq_true] at hc
    exact cachePut_cacheLegal h (cacheable_noncoherent hc.1) (cleanLine_lineLegal s.cfg s.mem hx)
  · exact h

@[simp] theorem State.fillLine_cfg (s : State) (x : Nat) : (s.fillLine x).cfg = s.cfg :=
  congrArg Parts.cfg (s.parts_fillLine x)

theorem State.fillLines_cacheLegal {s : State} (h : cacheLegal s.cfg s.cache = true) {xs : List Nat}
    (hx : ∀ x ∈ xs, x < 2 ^ 64) : cacheLegal s.cfg (s.fillLines xs).cache = true := by
  induction xs generalizing s with
  | nil => exact h
  | cons x xs ih =>
    have hf := State.fillLine_cacheLegal h (hx x (by simp))
    rw [← s.fillLine_cfg x] at hf ⊢
    exact ih hf fun y hy => hx y (by simp [hy])

theorem State.uncachedBytes_lt {s : State} {a : Addr} {x : Nat} (h : x ∈ s.uncachedBytes a) : x < 2 ^ 64 := by
  simp only [State.uncachedBytes, List.mem_filter, List.mem_map] at h
  obtain ⟨⟨k, -, rfl⟩, -⟩ := h
  exact Nat.mod_lt _ (by decide)

theorem State.afterLoad_cacheLegal {s : State} (h : cacheLegal s.cfg s.cache = true) (a : Addr) :
    cacheLegal s.cfg (s.afterLoad a).cache = true := by
  unfold State.afterLoad
  split
  · split
    · exact State.fillLines_cacheLegal h fun x hx => State.uncachedBytes_lt hx
    · exact h
  · exact h

theorem State.flush_cacheLegal {s : State} (h : cacheLegal s.cfg s.cache = true) (a n : Nat) :
    cacheLegal s.cfg (s.flush a n).cache = true := by
  unfold State.flush
  split
  · exact h
  · obtain ⟨hm, hr, hl⟩ := cacheLegal_iff.1 h
    refine cacheLegal_iff.2 ⟨hm.imp_right fun h => by rw [h]; rfl, basesRise_iff.2 ?_, fun k hk => ?_⟩
    · refine List.pairwise_map.2 ((basesRise_iff.1 hr).imp ?_)
      intro k l hkl
      split <;> split <;> exact hkl
    · obtain ⟨l, hl', rfl⟩ := List.mem_map.1 hk
      split <;> exact hl l hl'

theorem State.invalidate_cacheLegal {s : State} (h : cacheLegal s.cfg s.cache = true) (a n : Nat) :
    cacheLegal s.cfg (s.invalidate a n).cache = true := by
  unfold State.invalidate
  split
  · exact h
  · exact filter_cacheLegal h _

/-! The store buffer (R106, R107). -/

theorem mem_sbWords {sb : List SbEntry} {a : Addr} : a ∈ sbWords sb ↔ ∃ e ∈ sb, e.addr = a := by
  induction sb with
  | nil => simp [sbWords]
  | cons e t ih =>
    simp only [sbWords, List.mem_cons, List.mem_filter, ih, bne_iff_ne]
    grind

theorem sbWords_length_pos {sb : List SbEntry} (h : sb ≠ []) : 0 < (sbWords sb).length := by
  cases sb with
  | nil => exact absurd rfl h
  | cons e t => simp [sbWords]

/-- The oldest entry for a word has no older one for the word before it. -/
theorem sbOldest_eq_some {sb : List SbEntry} {a : Addr} {e : SbEntry} :
    sbOldest sb a = some e ↔ e.addr = a ∧ ∃ pre post, sb = pre ++ e :: post ∧ ∀ x ∈ pre, x.addr ≠ a := by
  simp [sbOldest, List.find?_eq_some_iff_append]

theorem sbRemove_append {pre : List SbEntry} {e : SbEntry} (h : ∀ x ∈ pre, x.addr ≠ e.addr) (post : List SbEntry) :
    sbRemove (pre ++ e :: post) e.addr = pre ++ post := by
  induction pre with
  | nil => simp [sbRemove]
  | cons x pre ih =>
    have hx := h x (by simp)
    simp only [List.cons_append, sbRemove, hx, if_false]
    rw [ih fun y hy => h y (by simp [hy])]

theorem sbRemove_sublist (sb : List SbEntry) (a : Addr) : (sbRemove sb a).Sublist sb := by
  induction sb with
  | nil => exact .slnil
  | cons e t ih =>
    unfold sbRemove
    split
    · exact List.sublist_cons_self e t
    · exact ih.cons_cons e

/-- The youngest entry for a word is that of the younger part, if it has one. -/
theorem sbLookup_append (older younger : List SbEntry) (a : Addr) :
    sbLookup (older ++ younger) a = (sbLookup younger a).or (sbLookup older a) := by
  induction older with
  | nil => simp [sbLookup]
  | cons e t ih =>
    simp only [List.cons_append, sbLookup, ih]
    cases sbLookup younger a <;> simp

theorem sbLookup_eq_none {sb : List SbEntry} {a : Addr} : sbLookup sb a = none ↔ ∀ e ∈ sb, e.addr ≠ a := by
  induction sb with
  | nil => simp [sbLookup]
  | cons e t ih =>
    unfold sbLookup
    cases h : sbLookup t a <;> grind

end Sys2Proof.Machine
end

section
/-! The invariant in the course of a step: what each update of the state needs to keep it, then each operation, each program
point and the step (the statement of 10_state.md R42, R44, R45, R53, R58, R61, R63; 20_memory.md R104, R112, R124;
42_engine_sequencer.md R251; 60_exceptions.md R427). -/

namespace Sys2Proof.Machine

/-! The invariant's parts as propositions. -/

/-- A channel's pointers are aligned, and its countdown and threshold legal (R42, R44, R45, R53, R58). -/
structure EngLegal (e : Eng) : Prop where
  curdesc : aligned64 e.curdesc = true
  taildesc : aligned64 e.taildesc = true
  fp : aligned64 e.fp = true
  cnt : e.cnt ≠ 0
  threshold : e.cr.irqThreshold ≠ 0

theorem engLegal_iff {e : Eng} : EngLegal e ↔ e.ptrsAligned = true ∧ e.countsLegal = true := by
  simp only [Eng.ptrsAligned, Eng.countsLegal, Bool.and_eq_true, bne_iff_ne]
  exact ⟨fun h => ⟨⟨⟨h.curdesc, h.taildesc⟩, h.fp⟩, h.cnt, h.threshold⟩,
    fun ⟨⟨⟨curdesc, taildesc⟩, fp⟩, cnt, threshold⟩ => ⟨curdesc, taildesc, fp, cnt, threshold⟩⟩

theorem recordLegal_iff {p : Params} {c : Chan} {r : Record} :
    recordLegal p c r = true ↔
      r.ring = p.ring.get c ∧ r.cap = p.cap.get c ∧ r.irq = p.irq.get c ∧ r.pop < r.cap ∧ r.cmp < r.cap := by
  simp [recordLegal, and_assoc]

/-- The interrupt contexts in the course of a step: one at most per line, no code with a slot outside its ring, and each with
something left to run, but for the running one where it may have `ended` (R61, R426, R427). -/
structure IrqsLegal (p : Params) (ended : Bool) (is : List IrqCtx) : Prop where
  distinct : linesDistinct is = true
  lines : ∀ i ∈ is, isLine p i.line = true
  code : ∀ i ∈ is, codeLegal p i.ctx.code = true
  goesOn : ∀ i ∈ is.drop ended.toNat, i.ctx.code ≠ []

/-- The invariant in the course of a step; the running interrupt context may have `ended`, and is then popped at the end of
the step (R426). -/
structure During (ended : Bool) (s : State) : Prop where
  memory : s.mem.wf = true
  engines : ∀ c, EngLegal (s.eng.get c)
  resetting : s.rstBusy = true → ∀ c, (s.eng.get c).quiet = true
  records : ∀ c, recordLegal s.cfg c (s.ch.get c) = true
  thread : codeLegal s.cfg s.thread.code = true
  irqs : IrqsLegal s.cfg ended s.irqs
  stores : ∀ e ∈ s.sb, aligned4 e.addr = true
  cache : cacheLegal s.cfg s.cache = true

theorem irqsLegal_false_iff {p : Params} {is : List IrqCtx} :
    IrqsLegal p false is ↔ is.all (fun i => codeLegal p i.ctx.code) = true ∧ irqsLegal p is = true := by
  simp only [irqsLegal, List.all_eq_true, Bool.and_eq_true, Bool.not_eq_true', List.isEmpty_eq_false_iff]
  exact ⟨fun h => ⟨h.code, h.distinct, fun i hi => ⟨h.lines i hi, h.goesOn i hi⟩⟩,
    fun ⟨code, distinct, h⟩ => ⟨distinct, fun i hi => (h i hi).1, code, fun i hi => (h i hi).2⟩⟩

/-- Between steps it is the invariant. -/
theorem during_false_iff {s : State} : During false s ↔ Inv s := by
  constructor
  · intro h
    obtain ⟨code, legal⟩ := irqsLegal_false_iff.1 h.irqs
    exact ⟨h.memory, fun c => (engLegal_iff.1 (h.engines c)).1, fun c => (engLegal_iff.1 (h.engines c)).2,
      h.resetting, h.records, ⟨h.thread, code⟩, legal, List.all_eq_true.2 h.stores, h.cache⟩
  · intro h
    exact ⟨h.memory, fun c => engLegal_iff.2 ⟨h.pointers c, h.counts c⟩, h.resetting, h.records, h.points.1,
      irqsLegal_false_iff.2 ⟨h.points.2, h.contexts⟩, List.all_eq_true.1 h.stores, h.cache⟩

/-! Code with no slot outside its ring (00_scope.md R13). -/

@[simp] theorem codeLegal_nil (p : Params) : codeLegal p [] = true := rfl

@[simp] theorem codeLegal_op (p : Params) (i : Instr) (is : List Item) :
    codeLegal p (.op i :: is) = codeLegal p is := rfl

@[simp] theorem codeLegal_app0Store (p : Params) (c : Chan) (a : Addr) (is : List Item) :
    codeLegal p (.app0Store c a :: is) = codeLegal p is := rfl

@[simp] theorem codeLegal_cont (p : Params) (k : Cont) (is : List Item) :
    codeLegal p (.cont k :: is) = (pointLegal p k && codeLegal p is) := rfl

@[simp] theorem codeLegal_append (p : Params) (is js : List Item) :
    codeLegal p (is ++ js) = (codeLegal p is && codeLegal p js) := by
  simp [codeLegal]

theorem codeLegal_tail {p : Params} {it : Item} {rest : List Item} (h : codeLegal p (it :: rest) = true) :
    codeLegal p rest = true := by
  simp only [codeLegal, List.all_cons, Bool.and_eq_true] at h
  exact h.2

@[simp] theorem codeLegal_map_op (p : Params) (is : List Instr) : codeLegal p (is.map .op) = true := by
  induction is with
  | nil => rfl
  | cons i is ih => exact ih

theorem codeLegal_relinkCode (p q : Params) (c : Chan) (r : Record) : codeLegal p (relinkCode q c r) = true := by
  have stores : codeLegal p ((List.range r.cap).flatMap (relinkPair q c r.cap)) = true := by
    induction List.range r.cap with
    | nil => rfl
    | cons i is ih => simpa [relinkPair] using ih
  simp [relinkCode, stores, pointLegal]

theorem codeLegal_lineTail (p : Params) (l : ProgLine) : codeLegal p (lineTail l) = true := by
  unfold lineTail
  split <;> rfl

/-! What each update of the state needs. -/

section
variable {b : Bool} {s : State}

/-- The running context's code holds no slot outside its ring. -/
theorem During.code (h : During b s) : codeLegal s.cfg s.code = true := by
  obtain ⟨-, -, -, -, thread, irqs, -, -⟩ := h
  unfold State.code State.running
  split
  · exact thread
  · rename_i i t hi
    exact irqs.code i (by simp [hi])

/-- The running context takes other code, no code only if it had none or its end is allowed. -/
theorem IrqsLegal.irqsWith {p : Params} {is : List IrqCtx} (h : IrqsLegal p b is) {x : Ctx}
    (hx : codeLegal p x.code = true) (hg : ∀ i ∈ is.head?, x.code = [] → i.ctx.code = [] ∨ b = true) :
    IrqsLegal p b (irqsWith is x) := by
  cases is with
  | nil => exact h
  | cons i t =>
    obtain ⟨distinct, lines, code, goesOn⟩ := h
    refine ⟨distinct, ?_, ?_, ?_⟩
    · exact List.forall_mem_cons.2 (List.forall_mem_cons.1 lines)
    · exact List.forall_mem_cons.2 ⟨hx, (List.forall_mem_cons.1 code).2⟩
    · cases b with
      | true => exact goesOn
      | false =>
        obtain ⟨hi, ht⟩ := List.forall_mem_cons.1 goesOn
        exact List.forall_mem_cons.2 ⟨fun hn => (hg i rfl hn).elim hi Bool.false_ne_true, ht⟩

theorem During.setRunning (h : During b s) {x : Ctx} (hx : codeLegal s.cfg x.code = true)
    (hg : x.code = [] → s.code = [] ∨ b = true) : During b (s.setRunning x) := by
  refine { h with thread := ?_, irqs := h.irqs.irqsWith hx fun i hi => ?_ }
  · simp only [State.setRunning_thread, State.setRunning_cfg, threadWith]
    split
    · exact hx
    · exact h.thread
  · have code_eq : s.code = i.ctx.code := by
      unfold State.code State.running
      cases hs : s.irqs <;> simp_all
    rwa [← code_eq]

theorem During.answer (h : During b s) (v : Value) : During b (s.answer v) :=
  h.setRunning h.code .inl

theorem During.assign (h : During b s) (d k : Option Nat) (v : Value) : During b (s.assign d k v) :=
  h.setRunning h.code .inl

theorem During.push (h : During b s) {is : List Item} (hc : codeLegal s.cfg is = true) : During b (s.push is) := by
  refine h.setRunning (x := { s.running with code := is ++ s.code }) ?_ fun hn => .inl (List.append_eq_nil_iff.1 hn).2
  rw [codeLegal_append, hc, h.code]
  rfl

theorem During.setEng (h : During b s) (hb : s.rstBusy = false) (c : Chan) {e : Eng} (he : EngLegal e) :
    During b (s.setEng c e) := by
  refine { h with engines := fun d => ?_, resetting := fun busy => absurd (hb.symm.trans busy) Bool.false_ne_true }
  by_cases hd : d = c
  · rwa [State.setEng_eng, hd, Pair.get_set_self]
  · rw [State.setEng_eng, Pair.get_set_other _ _ hd]
    exact h.engines d

theorem During.setRec (h : During b s) (c : Chan) {r : Record} (hr : recordLegal s.cfg c r = true) :
    During b (s.setRec c r) := by
  refine { h with records := fun d => ?_ }
  by_cases hd : d = c
  · subst hd
    rwa [State.setRec_ch, Pair.get_set_self]
  · rw [State.setRec_ch, Pair.get_set_other _ _ hd]
    exact h.records d

theorem During.setMem (h : During b s) {m : Memory} (hm : m.wf = true) : During b (s.setMem m) :=
  { h with memory := hm }

theorem During.setCache (h : During b s) {ls : List CacheLine} (hl : cacheLegal s.cfg ls = true) :
    During b (s.setCache ls) :=
  { h with cache := hl }

theorem During.spend (h : During b s) (k : Nat) : During b (s.spend k) := { h with }

theorem During.setEn (h : During b s) (c : Chan) (e : Bool) : During b (s.setEn c e) := { h with }

theorem During.install (h : During b s) (c : Chan) : During b (s.install c) := { h with }

theorem During.buffer (h : During b s) {a : Addr} (ha : aligned4 a = true) (v : Word) : During b (s.buffer a v) :=
  { h with stores := List.forall_mem_append.2 ⟨h.stores, List.forall_mem_singleton.2 ha⟩ }

/-- Both channels are as at boot, HALTED with the timer idle (R280). -/
theorem During.softReset (h : During b s) : During b s.softReset := by
  refine { h with engines := fun c => ?_, resetting := fun _ c => ?_ }
  · have boot : EngLegal Eng.boot := ⟨rfl, rfl, rfl, by decide, by decide⟩
    cases c <;> exact { boot with }
  · cases c <;> rfl

end

/-! The engine's bookkeeping (42_engine_sequencer.md). -/

/-- A channel's walk goes on: its copies and its phase are free. -/
theorem EngLegal.walk {e : Eng} (h : EngLegal e) (sn : Snap) (x : XRes) (ph : Phase) :
    EngLegal { e with snap := sn, xres := x, phase := ph } := { h with }

theorem EngLegal.setCurdesc {e : Eng} (h : EngLegal e) {p : Addr} (hp : aligned64 p = true) :
    EngLegal { e with curdesc := p, fp := p } := { h with curdesc := hp, fp := hp }

theorem EngLegal.setTaildesc {e : Eng} (h : EngLegal e) {p : Addr} (hp : aligned64 p = true) (ph : Phase) :
    EngLegal { e with taildesc := p, phase := ph } := { h with taildesc := hp }

theorem EngLegal.errorCompletion {e : Eng} (h : EngLegal e) : EngLegal (errorCompletion e) := { h with }

theorem EngLegal.fetchError {e : Eng} (h : EngLegal e) (r : XResp) : EngLegal (fetchError r e) := { h with }

theorem EngLegal.wbRefused {e : Eng} (h : EngLegal e) (r : BusResp) : EngLegal (wbRefused r e) := { h with }

theorem EngLegal.delayFired {e : Eng} (h : EngLegal e) : EngLegal (delayFired e) := { h with cnt := h.threshold }

theorem EngLegal.ackDmasr {e : Eng} (h : EngLegal e) (v : Word) : EngLegal (ackDmasr e v) := { h with }

/-- The countdown goes down, and from 1 back to the threshold (R270). -/
theorem EngLegal.completionEvent {e : Eng} (h : EngLegal e) : EngLegal (completionEvent e) := by
  unfold Machine.completionEvent
  split
  · exact { h with cnt := h.threshold }
  · rename_i hc
    exact { h with cnt := hc }

/-- FP moves to the next pointer, which R262 refuses where it is misaligned. -/
theorem EngLegal.wbDone {e : Eng} (h : EngLegal e) (hn : aligned64 e.snap.next = true) : EngLegal (wbDone e) := by
  unfold Machine.wbDone
  split
  · have moved : EngLegal { e with fp := e.snap.next } := { h with fp := hn }
    exact { moved.completionEvent with }
  · have moved (r : XResp) : EngLegal { e with sr := setDmaErr r e.sr, fp := e.snap.next } := { h with fp := hn }
    exact (moved _).completionEvent.errorCompletion

/-- A threshold other than 0 is written, and the countdown follows it or stays (R185). -/
theorem EngLegal.writeCr {e : Eng} (h : EngLegal e) (v : Word) {t : BitVec 8} (ht : t ≠ 0) :
    EngLegal (writeCr e v t) := by
  simp only [Machine.writeCr, writeThreshold]
  split
  · exact { h with }
  · exact { h with cnt := ht, threshold := ht }

theorem drawnThreshold_ne_zero (v : Nat) : drawnThreshold v ≠ 0 := by
  have : v % 255 < 255 := Nat.mod_lt _ (by decide)
  unfold drawnThreshold
  intro h
  have := congrArg BitVec.toNat h
  simp only [BitVec.toNat_ofNat, BitVec.ofNat_eq_ofNat] at this
  omega

/-! Bits 5:0 of a pointer are those of its low word (30_encoding.md R146). -/

theorem aligned64_joinPtr (high lo : Word) : aligned64 (joinPtr high lo) = alignedLow lo := by
  have low : (joinPtr high lo).extractLsb' 0 6 = lo.extractLsb' 0 6 := by
    apply BitVec.eq_of_getLsbD_eq
    intro i hi
    have append : (joinPtr high lo).getLsbD i = lo.getLsbD i :=
      (BitVec.getLsbD_append (x := high) (y := lo)).trans (if_pos (by omega))
    simp only [BitVec.getLsbD_extractLsb', Nat.zero_add, append]
  rw [aligned64, low, alignedLow]

theorem alignedLow_lo32 (a : Addr) : alignedLow (lo32 a) = aligned64 a := by
  have low : (lo32 a).extractLsb' 0 6 = a.extractLsb' 0 6 := by
    apply BitVec.eq_of_getLsbD_eq
    intro i hi
    simp [lo32]
  rw [alignedLow, low, aligned64]

/-! Register accesses (40_register_interface.md). -/

section
variable {b : Bool} {s t : State}

theorem During.of_next {u : State} (h : During b u) (he : (.next u : Res) = .next t) : During b t := by
  cases he
  exact h

theorem During.mmioRead (h : During b s) {c : Chan} {r : Reg} (he : mmioRead c r s = .next t) : During b t :=
  ((h.spend _).answer _).of_next he

theorem During.mmioWrite (h : During b s) {c : Chan} {r : Reg} {v : Word} (he : mmioWrite c r v s = .next t) :
    During b t := by
  have old := h.engines c
  unfold Machine.mmioWrite at he
  split at he
  · cases he
  rename_i hb
  rw [Bool.not_eq_true] at hb
  cases r with
  | dmacr =>
    obtain ⟨-, -, ⟨-, rfl⟩ | ⟨-, -, rfl⟩ | ⟨-, ht, rfl⟩⟩ := writeDmacr_next.1 he
    · exact h.softReset.answer _
    · exact ((h.setEng hb c (old.writeCr v (drawnThreshold_ne_zero _))).spend 1).answer _
    · exact (h.setEng hb c (old.writeCr v ht)).answer _
  | dmasr => exact ((h.setEng hb c (old.ackDmasr v)).answer _).of_next he
  | curdescLsb =>
    obtain ⟨-, hv, rfl⟩ := writeCurdescLsb_next.1 he
    have aligned := (aligned64_joinPtr (hi32 (s.eng.get c).curdesc) v).trans hv
    exact (h.setEng hb c (old.setCurdesc aligned)).answer _
  | curdescMsb =>
    obtain ⟨-, rfl⟩ := writeCurdescMsb_next.1 he
    have aligned := (aligned64_joinPtr v _).trans ((alignedLow_lo32 _).trans old.curdesc)
    exact (h.setEng hb c (old.setCurdesc aligned)).answer _
  | taildescLsb =>
    obtain ⟨hv, rfl⟩ := writeTaildescLsb_next.1 he
    exact (h.setEng hb c (old.setTaildesc ((aligned64_joinPtr _ v).trans hv) _)).answer _
  | taildescMsb =>
    have aligned := (aligned64_joinPtr v _).trans ((alignedLow_lo32 _).trans old.taildesc)
    exact ((h.setEng hb c (old.setTaildesc aligned _)).answer _).of_next he

/-! The engine's steps (42_engine_sequencer.md). -/

/-- A step of an engine is taken outside a soft reset only (R251). -/
theorem During.whenEnabled (h : During b s) {q : Bool} {r : Res} (he : whenEnabled q s r = .next t)
    (hq : q = true → s.engineRuns = true) (hr : s.rstBusy = false → r = .next t → During b t) : During b t := by
  obtain ⟨enabled, he⟩ | ⟨-, rfl⟩ := whenEnabled_next.1 he
  · exact hr (by simpa [State.engineRuns] using hq enabled) he
  · exact h

theorem During.execEHalt (h : During b s) {c : Chan} (he : execEHalt c s = .next t) : During b t :=
  h.whenEnabled he (by simp +contextual [State.haltEnabled]) fun hb he =>
    (h.setEng hb c ((h.engines c).walk _ _ .halted)).of_next he

theorem During.execEFetch (h : During b s) {c : Chan} (he : execEFetch c s = .next t) : During b t := by
  refine h.whenEnabled he (by simp +contextual [State.fetchEnabled]) fun hb he => ?_
  have old := h.engines c
  have moved : EngLegal { s.eng.get c with curdesc := (s.eng.get c).fp } := { old with curdesc := old.fp }
  refine During.of_next ?_ he
  simp only [fetchStep]
  split
  · have fetched := moved.walk (fetchSnap s.mem (s.eng.get c).fp)
    split
    · exact h.setEng hb c ((fetched _ _).fetchError _)
    · split
      · exact (h.setEng hb c (fetched _ _)).spend 2
      · exact h.setEng hb c (fetched _ _)
  · exact h.setEng hb c (moved.fetchError _)
  · exact h.setEng hb c (moved.fetchError _)

theorem During.execEXferTx (h : During b s) (he : execEXferTx s = .next t) : During b t := by
  refine h.whenEnabled he (by simp +contextual [State.xferEnabled]) fun hb he => ?_
  refine During.of_next ?_ he
  simp only [xferTxStep]
  have old : EngLegal s.eng.tx := h.engines .tx
  split
  · exact { h.setEng hb .tx (old.walk _ _ .wb) with }
  · exact h.setEng hb .tx (old.walk _ _ .wb)

theorem During.execEXferRx (h : During b s) (he : execEXferRx s = .next t) : During b t := by
  refine h.whenEnabled he (by simp +contextual [State.xferEnabled]) fun hb he => ?_
  refine During.of_next ?_ he
  simp only [xferRxStep]
  have old : EngLegal s.eng.rx := h.engines .rx
  split
  · exact ((h.spend 5).setMem (Memory.writeBytes_wf h.memory _ _)).setEng hb .rx (old.walk _ _ .wb)
  · exact (h.spend 5).setEng hb .rx (old.walk _ _ .wb)

theorem During.execEWb (h : During b s) {c : Chan} (he : execEWb c s = .next t) : During b t := by
  refine h.whenEnabled he (by simp +contextual [State.wbEnabled]) fun hb he => ?_
  have old := h.engines c
  obtain ⟨m, r, hm, wf⟩ := s.memWrites_eq (wbWrites c (s.eng.get c).snap.addr (s.eng.get c).xres)
  have written := h.setMem (wf h.memory)
  simp only [wbStep, hm] at he
  split at he
  · cases r with
    | okay =>
      simp only at he
      split at he
      · cases he
      · rename_i hn
        exact (written.setEng hb c (old.wbDone (by simpa using hn))).of_next he
    | slverr | decerr => exact (written.setEng hb c (old.wbRefused _)).of_next he
  · exact (h.setEng hb c (old.wbRefused _)).of_next he

theorem During.execEDelay (h : During b s) {c : Chan} (he : execEDelay c s = .next t) : During b t :=
  h.whenEnabled he (by simp +contextual [State.delayEnabled]) fun hb he =>
    (h.setEng hb c (h.engines c).delayFired).of_next he

theorem During.execEResetDone (h : During b s) (he : execEResetDone s = .next t) : During b t := by
  obtain ⟨-, he⟩ | ⟨-, rfl⟩ := whenEnabled_next.1 he
  · have ended : During b { s with rstBusy := false } :=
      { h with resetting := fun busy => absurd busy Bool.false_ne_true }
    exact ended.of_next he
  · exact h

/-! The environment's steps (20_memory.md R107, R124; 60_exceptions.md R425). -/

theorem During.drainBytes (h : During b s) (alloc : Bool) (x : Nat) (bs : List Byte) :
    During b (s.drainBytes alloc x bs) := by
  have wf := State.drainBytes_wf h.memory alloc x bs
  have legal := State.drainBytes_cacheLegal h.cache alloc x bs
  obtain ⟨m, ls, hd⟩ := s.drainBytes_eq alloc x bs
  rw [hd] at wf legal ⊢
  exact { h with memory := wf, cache := legal }

theorem During.execEnvDrain (h : During b s) (he : execEnvDrain s = .next t) : During b t := by
  obtain ⟨-, he⟩ | ⟨-, rfl⟩ := whenEnabled_next.1 he
  · simp only [drainStep] at he
    split at he
    · exact h.of_next he
    · split at he
      · cases he
      · have fewer (a : Addr) : During b { s with sb := sbRemove s.sb a } :=
          { h with stores := fun e hm => h.stores e ((sbRemove_sublist s.sb a).subset hm) }
        exact (((fewer _).drainBytes _ _ _).spend 1).of_next he
  · exact h

theorem During.execEnvEvict (h : During b s) (he : execEnvEvict s = .next t) : During b t := by
  unfold Machine.execEnvEvict at he
  split at he
  · exact h.of_next he
  · rename_i l _
    have evicted : During b (s.evictLine l) :=
      { h with memory := State.evictLine_wf h.memory l, cache := filter_cacheLegal h.cache _ }
    exact (evicted.spend 1).of_next he

theorem During.execEnvFill (h : During b s) (he : execEnvFill s = .next t) : During b t := by
  obtain ⟨-, he⟩ | ⟨-, rfl⟩ := whenEnabled_next.1 he
  · have legal := State.fillLine_cacheLegal h.cache (Nat.mod_lt (s.choice 0) (show 0 < 2 ^ 64 by decide))
    obtain ⟨ls, hf⟩ := s.fillLine_eq (s.choice 0 % 2 ^ 64)
    rw [hf] at he legal
    exact ((h.setCache legal).spend 1).of_next he
  · exact h

/-- An interrupt context starts on a line that has none (R425, R427). -/
theorem IrqsLegal.cons {p : Params} {is : List IrqCtx} (h : IrqsLegal p false is) {i : IrqCtx}
    (hd : ∀ j ∈ is, j.line ≠ i.line) (hl : isLine p i.line = true) (hc : codeLegal p i.ctx.code = true)
    (hg : i.ctx.code ≠ []) : IrqsLegal p false (i :: is) where
  distinct := by simpa [linesDistinct, h.distinct] using hd
  lines := List.forall_mem_cons.2 ⟨hl, h.lines⟩
  code := List.forall_mem_cons.2 ⟨hc, h.code⟩
  goesOn := List.forall_mem_cons.2 ⟨hg, h.goesOn⟩

theorem isLine_irq (p : Params) (c : Chan) : isLine p (p.irq.get c) = true := by
  cases c <;> simp [isLine]

theorem During.execIrqTake (h : During false s) {c : Chan} (he : execIrqTake c s = .next t) : During false t := by
  obtain ⟨enabled, he⟩ | ⟨-, rfl⟩ := whenEnabled_next.1 he
  · simp only [State.canTakeIrq, Bool.and_eq_true, Bool.not_eq_true', List.any_eq_false, beq_iff_eq] at enabled
    obtain ⟨⟨-, free⟩, -⟩ := enabled
    obtain ⟨-, -, wired, -⟩ := recordLegal_iff.1 (h.records c)
    have line : isLine s.cfg (s.ch.get c).irq = true := by rw [wired, isLine_irq]
    have taken : During false (s.takeIrq c) := { h with irqs := h.irqs.cons free line rfl (List.cons_ne_nil _ _) }
    exact taken.of_next he
  · exact h

/-! The host primitives (41_host_primitives.md). -/

theorem During.execLd32 (h : During b s) {a : Addr} (he : execLd32 a s = .next t) : During b t := by
  unfold Machine.execLd32 at he
  split at he
  · cases he
  · split at he
    · cases he
    · have legal := State.afterLoad_cacheLegal h.cache a
      obtain ⟨ls, ds, n, hl⟩ := s.afterLoad_eq a
      rw [hl] at he legal
      have loaded : During b { s with cache := ls, draws := ds, drawNo := n } := { h with cache := legal }
      exact (loaded.answer _).of_next he

theorem During.execSt32 (h : During b s) {a : Addr} {v : Word} (he : execSt32 a v s = .next t) : During b t := by
  unfold Machine.execSt32 at he
  split at he
  · cases he
  · rename_i ha
    exact ((h.buffer (by simpa using ha) v).answer _).of_next he

theorem During.execFence (h : During b s) (he : execFence s = .next t) : During b t := by
  unfold Machine.execFence at he
  split at he
  · exact (h.answer _).of_next he
  · exact (h.push rfl).of_next he

theorem During.execDcFlush (h : During b s) {a : Addr} {n : Nat} (he : execDcFlush a n s = .next t) : During b t := by
  have wf := State.flush_wf h.memory a.toNat n
  have legal := State.flush_cacheLegal h.cache a.toNat n
  obtain ⟨m, ls, hf⟩ := s.flush_eq a.toNat n
  rw [Machine.execDcFlush, hf] at he
  rw [hf] at wf legal
  have flushed : During b { s with mem := m, cache := ls } := { h with memory := wf, cache := legal }
  exact (flushed.answer _).of_next he

theorem During.execDcInval (h : During b s) {a : Addr} {n : Nat} (he : execDcInval a n s = .next t) : During b t := by
  have legal := State.invalidate_cacheLegal h.cache a.toNat n
  obtain ⟨ls, hi⟩ := s.invalidate_eq a.toNat n
  rw [Machine.execDcInval, hi] at he
  rw [hi] at legal
  exact ((h.setCache legal).answer _).of_next he

theorem During.setGie (h : During b s) (g : Bool) : During b { s with gie := g } := { h with }

theorem During.execCsEnter (h : During b s) {c : Nat} (he : execCsEnter c s = .next t) : During b t := by
  unfold Machine.execCsEnter at he
  split at he
  · exact ((h.setGie false).answer _).of_next he
  · exact (((h.setEn .tx false).setEn .rx false).answer _).of_next he
  · split at he
    · cases he
    · obtain ⟨o, -, rfl⟩ := onLine_next.1 he
      exact (h.setEn o false).answer _

theorem During.execCsExit (h : During b s) {key : Key} (he : execCsExit key s = .next t) : During b t := by
  cases key with
  | global g => exact ((h.setGie g).answer _).of_next he
  | both x y => exact (((h.setEn .tx x).setEn .rx y).answer _).of_next he
  | line l e =>
    obtain ⟨o, -, rfl⟩ := onLine_next.1 he
    exact (h.setEn o e).answer _

theorem During.execCallback (h : During b s) {c : Nat} {r : CbResult} (he : execCallback c r s = .next t) :
    During b t := by
  unfold Machine.execCallback at he
  split at he
  · cases he
  · rename_i ch _
    have logged : During b (s.logCallback ch r).takeBody := { h with }
    exact ((logged.answer _).push (codeLegal_map_op _ _)).of_next he

/-! The driver's procedures at entry (43_ring.md to 47_controller.md). -/

theorem During.execConfigure (h : During b s) {c : Nat} {req : CfgReq} (he : execConfigure c req s = .next t) :
    During b t := by
  obtain ⟨-, rfl⟩ | ⟨ch, -, -, he⟩ := withChannel_next.1 he
  · exact h.answer _
  · split at he
    · cases he
    · split at he
      · exact (h.answer _).of_next he
      · split at he
        · exact (h.answer _).of_next he
        · exact (h.push rfl).of_next he

theorem recordLegal_wired {p : Params} {c : Chan} {r : Record} (h : recordLegal p c r = true) :
    recordLegal p c (wired p c r) = true := by
  obtain ⟨-, cap, -, pop, cmp⟩ := recordLegal_iff.1 h
  rw [cap] at pop cmp
  cases c <;> exact recordLegal_iff.2 ⟨rfl, rfl, rfl, pop, cmp⟩

theorem During.execInit (h : During b s) (he : execInit s = .next t) : During b t := by
  unfold Machine.execInit at he
  split at he
  · cases he
  · split at he
    · have failed : During b { s with ctl := .failed } := { h with }
      exact (failed.answer _).of_next he
    · have records : ∀ c, recordLegal s.cfg c
          ((⟨wired s.cfg .tx s.ch.tx, wired s.cfg .rx s.ch.rx⟩ : Pair Record).get c) = true
        | .tx => recordLegal_wired (h.records .tx)
        | .rx => recordLegal_wired (h.records .rx)
      have wired : During b { s with ch := ⟨wired s.cfg .tx s.ch.tx, wired s.cfg .rx s.ch.rx⟩ } :=
        { h with records := records }
      exact (wired.push rfl).of_next he

/-! Every operation. -/

/-- An operation keeps the invariant; an interrupt is taken between the host's steps only. -/
theorem During.exec {i : Instr} (h : During b s) (he : exec i s = .next t) (hi : i.opClass = .auto → b = false) :
    During b t := by
  cases i with
  | rdTxDmacr | rdTxDmasr | rdTxCurdescLsb | rdTxCurdescMsb | rdTxTaildescLsb | rdTxTaildescMsb
  | rdRxDmacr | rdRxDmasr | rdRxCurdescLsb | rdRxCurdescMsb | rdRxTaildescLsb | rdRxTaildescMsb =>
    simp only [Machine.exec] at he
    exact h.mmioRead he
  | wrTxDmacr | wrTxDmasr | wrTxCurdescLsb | wrTxCurdescMsb | wrTxTaildescLsb | wrTxTaildescMsb
  | wrRxDmacr | wrRxDmasr | wrRxCurdescLsb | wrRxCurdescMsb | wrRxTaildescLsb | wrRxTaildescMsb =>
    simp only [Machine.exec] at he
    exact h.mmioWrite he
  | ld32 => exact h.execLd32 he
  | st32 => exact h.execSt32 he
  | fence => exact h.execFence he
  | dcFlush => exact h.execDcFlush he
  | dcInval => exact h.execDcInval he
  | irqEnable | irqDisable =>
    obtain ⟨o, -, rfl⟩ := onLine_next.1 he
    exact (h.setEn o _).answer _
  | irqIsEnabled =>
    obtain ⟨o, -, rfl⟩ := onLine_next.1 he
    exact h.answer _
  | csEnter => exact h.execCsEnter he
  | csExit => exact h.execCsExit he
  | sleep | chanFilter => exact (h.answer _).of_next he
  | callback => exact h.execCallback he
  | log m =>
    have logged : During b { s with logs := s.logs ++ [m] } := { h with }
    exact (logged.answer _).of_next he
  | relink =>
    obtain ⟨ch, -, -, he⟩ := withReady_next.1 he
    exact (h.push (codeLegal_relinkCode _ _ _ _)).of_next he
  | populate | reclaim =>
    obtain ⟨ch, -, -, he⟩ := withReady_next.1 he
    exact (h.push rfl).of_next (whenConfigured_next.1 he).2
  | isr =>
    obtain ⟨ch, -, -, he⟩ := withReady_next.1 he
    exact (h.push rfl).of_next he
  | start =>
    obtain ⟨-, rfl⟩ | ⟨ch, -, -, he⟩ := withChannel_next.1 he
    · exact h.answer _
    · exact (h.push rfl).of_next (whenConfigured_next.1 he).2
  | stop | getStatus | reload =>
    obtain ⟨-, rfl⟩ | ⟨ch, -, -, he⟩ := withChannel_next.1 he
    · exact h.answer _
    · exact (h.push rfl).of_next he
  | configure => exact h.execConfigure he
  | init => exact h.execInit he
  | eHalt => exact h.execEHalt he
  | eFetch => exact h.execEFetch he
  | eXferTx => exact h.execEXferTx he
  | eXferRx => exact h.execEXferRx he
  | eWb => exact h.execEWb he
  | eDelay => exact h.execEDelay he
  | eResetDone => exact h.execEResetDone he
  | envDrain => exact h.execEnvDrain he
  | envEvict => exact h.execEnvEvict he
  | envFill => exact h.execEnvFill he
  | irqTake =>
    obtain rfl := hi rfl
    exact h.execIrqTake he

/-! The program points of the procedures (43_ring.md to 47_controller.md). -/

theorem During.rcTail (h : During b s) (c : Chan) (key : Key) (count : Nat) (d : Addr) (err : Bool) :
    During b (rcTail c key count d err s) := by
  refine h.push ?_
  split <;> simp [pointLegal]

theorem During.rcBuf (h : During b s) (c : Chan) (key : Key) (count : Nat) (d : Addr) (sts : Word) (err : Bool) :
    During b (rcBuf c key count d sts err s) := by
  cases c with
  | tx => exact h.rcTail .tx key count d err
  | rx => exact h.push rfl

theorem During.cfgBlocks (h : During b s) (c : Chan) (first : Bool) (bs : List Block) :
    During b (cfgBlocks c first s bs) := by
  cases bs with
  | nil => exact h.answer _
  | cons => exact h.push rfl

/-- LINKED_MODE leaves the wiring and the cursors of the record (R367). -/
theorem recordLegal_linkedMode {p : Params} {c : Chan} {m : Int} {r u : Record} (h : recordLegal p c r = true)
    (hu : linkedMode p c m r = some u) : recordLegal p c u = true := by
  unfold linkedMode at hu
  split at hu
  · cases hu
    exact h
  · split at hu
    · cases c <;> cases hu <;> exact h
    · cases hu

/-- A program point keeps the invariant: it puts legal code on the context, and moves a cursor to an index of its ring. -/
theorem During.runPoint (h : During b s) {k : Cont} (hk : pointLegal s.cfg k = true) : During b (runPoint k s) := by
  have wiring (c : Chan) := recordLegal_iff.1 (h.records c)
  cases k with
  | assign d k => exact h.assign d k _
  | ret v => exact h.answer v
  | statusSr => exact h.answer _
  | popSlot p =>
    obtain ⟨-, cap, -, pop, -⟩ := wiring p.c
    have slot : ((s.ch.get p.c).pop + 1) % (s.ch.get p.c).cap < s.cfg.cap.get p.c := by
      rw [← cap]
      exact Nat.mod_lt _ (by omega)
    exact h.push (by simpa [pointLegal] using slot)
  | popCtl p key ni => exact h.push (by simpa [pointLegal] using hk)
  | popSts p key ni ctl =>
    simp only [Machine.runPoint, popSts]
    split
    · refine h.push ?_
      unfold popStores
      split <;> simpa [pointLegal] using hk
    · exact h.push rfl
  | popSet c ni =>
    obtain ⟨ring, cap, irq, -, cmp⟩ := wiring c
    exact h.setRec c (recordLegal_iff.2 ⟨ring, cap, irq, by simpa [pointLegal, cap] using hk, cmp⟩)
  | rcSts c key count d =>
    simp only [Machine.runPoint, rcSts]
    split
    · exact h.push rfl
    · split
      · exact h.push rfl
      · exact h.rcBuf c key count d _ _
  | rcCsum c key count d sts err => exact h.rcBuf c key count d sts _
  | rcRx c key count d sts err =>
    have noted := h.setRec c (r := { s.ch.get c with lastRx := lenField sts }) (h.records c)
    exact noted.rcTail c key count d err
  | rcNext c key count =>
    obtain ⟨ring, cap, irq, pop, cmp⟩ := wiring c
    have moved := h.setRec c (r := { s.ch.get c with cmp := ((s.ch.get c).cmp + 1) % (s.ch.get c).cap })
      (recordLegal_iff.2 ⟨ring, cap, irq, pop, Nat.mod_lt _ (Nat.zero_lt_of_lt cmp)⟩)
    exact moved.push rfl
  | cfgKey c req =>
    obtain ⟨ring, cap, irq, pop, cmp⟩ := wiring c
    have reset := h.setRec c (r := { s.ch.get c with pop := (s.ch.get c).cap - 1, cmp := 0 })
      (recordLegal_iff.2 ⟨ring, cap, irq, Nat.sub_one_lt (Nat.ne_zero_of_lt cmp), Nat.zero_lt_of_lt cmp⟩)
    exact reset.push rfl
  | cfgDone c req key =>
    have done := h.setRec c (r := { s.ch.get c with configured := true }) (h.records c)
    exact done.push rfl
  | cfgLinked c req =>
    simp only [Machine.runPoint, cfgLinked]
    split
    · exact h.answer _
    · rename_i r hr
      have legal := recordLegal_linkedMode (h.records c) hr
      have linked := h.setRec c (r := { r with cb := req.cb, ud := req.ud }) legal
      exact linked.cfgBlocks c true req.blocks
  | cfgNext c bs =>
    simp only [Machine.runPoint, cfgNext]
    split
    · exact h.cfgBlocks c false bs
    · exact h
  | startSr c key =>
    refine h.push ?_
    split <;> rfl
  | isrSr c l was =>
    refine h.push ?_
    simp only [codeLegal_append, Bool.and_eq_true]
    refine ⟨⟨⟨?_, ?_⟩, ?_⟩, rfl⟩ <;> split <;> rfl
  | initChk i =>
    simp only [Machine.runPoint, initChk]
    split
    · exact ((h.install .tx).install .rx).push rfl
    · split
      · exact h.push rfl
      · have failed : During b { s with ctl := .failed } := { h with }
        exact failed.answer _
  | initReady =>
    have ready : During b { s with ctl := .ready } := { h with }
    exact ready.answer _
  | rcKey | rcBufHi | rcBufLo | startKey | startTail | stopKey | stopCr | isrWas | initPoll => exact h.push rfl

/-! The step. -/

/-- No line of a program spells an autonomous step (30_encoding.md R150 f). -/
theorem lineInstr_not_auto {vals : List (Nat × Value)} {l : ProgLine} {i : Instr} (h : lineInstr vals l = .next i) :
    i.opClass ≠ .auto := by
  have program (w : OpWord) (x : Args) (h : programInstr w x = .next i) : i.opClass ≠ .auto := by
    unfold programInstr at h
    split at h
    · cases h
    · split at h
      · cases h
      · rename_i ha
        cases h
        exact ha
  unfold lineInstr at h
  split at h
  · exact program _ _ h
  · split at h <;> cases h

theorem During.runOp (h : During b s) {i : Instr} (he : runOp i s = .next t) : During b t := by
  unfold Machine.runOp at he
  split at he
  · cases he
  · rename_i hi
    exact h.exec he fun ha => absurd ha hi

theorem During.runItem (h : During b s) {it : Item} (hit : codeLegal s.cfg [it] = true)
    (he : runItem it s = .next t) : During b t := by
  cases it with
  | line l =>
    simp only [Machine.runItem, runLine] at he
    split at he
    · rename_i i hi
      exact (h.push (codeLegal_lineTail _ l)).exec he fun ha => absurd ha (lineInstr_not_auto hi)
    · cases he
    · cases he
  | op i => exact h.runOp he
  | cont k => exact (h.runPoint (by simpa using hit)).of_next he
  | app0Store c a => exact h.runOp he

/-- Between steps a context may be asked less: that the running one goes on is dropped. -/
theorem During.relax (h : During false s) : During true s :=
  { h with irqs := { h.irqs with goesOn := fun i hi => h.irqs.goesOn i (List.mem_of_mem_drop hi) } }

/-- An item is taken off the running context's code. -/
theorem During.setCode_tail (h : During true s) {it : Item} {rest : List Item} (hc : s.code = it :: rest) :
    During true (s.setCode rest) :=
  h.setRunning (x := { s.running with code := rest }) (codeLegal_tail (hc ▸ h.code)) fun _ => .inr rfl

/-- A context that has run its last step is popped, and the others each have something left (R426). -/
theorem IrqsLegal.settle {p : Params} {is : List IrqCtx} (h : IrqsLegal p true is) :
    IrqsLegal p false (settleIrqs is) := by
  cases is with
  | nil => exact ⟨rfl, h.lines, h.code, h.goesOn⟩
  | cons i t =>
    obtain ⟨distinct, lines, code, goesOn⟩ := h
    simp only [linesDistinct, Bool.and_eq_true] at distinct
    rw [settleIrqs]
    split
    · exact ⟨distinct.2, (List.forall_mem_cons.1 lines).2, (List.forall_mem_cons.1 code).2, goesOn⟩
    · rename_i hi
      have head : i.ctx.code ≠ [] := by simpa using hi
      exact ⟨by simpa [linesDistinct] using distinct, lines, code, List.forall_mem_cons.2 ⟨head, goesOn⟩⟩

theorem During.settle (h : During true s) : During false s.settle := { h with irqs := h.irqs.settle }

theorem During.hostTurn (h : During false s) (he : hostTurn s = .next t) : During false t := by
  unfold Machine.hostTurn at he
  obtain ⟨u, hu, rfl⟩ := mapNext_next.1 he
  refine During.settle ?_
  split at hu
  · exact h.relax.of_next hu
  · rename_i it rest hc
    have legal := h.code
    rw [hc, ← List.singleton_append, codeLegal_append, Bool.and_eq_true] at legal
    exact (h.relax.setCode_tail hc).runItem legal.1 hu

theorem During.autoTurn (h : During false s) {w : OpWord} (he : autoTurn w s = .next t) : During false t := by
  unfold Machine.autoTurn at he
  split at he
  · cases he
  · split at he
    · exact h.exec he fun _ => rfl
    · cases he

theorem During.step (h : During false s) (he : step s = .next t) : During false t := by
  have turned : During false s.nextTurn := { h with }
  unfold Machine.step checkedTurn at he
  split at he
  · cases ht : s.turn with
    | host =>
      rw [ht] at he
      exact turned.hostTurn he
    | auto w =>
      rw [ht] at he
      exact turned.autoTurn he
  · cases he

end

/-- Settles O51: the step keeps what holds in the course of a step, which between steps is the invariant. -/
theorem everyStepKeepsTheInvariant : Obligations.EveryStepKeepsTheInvariant := by
  intro s t h he
  exact during_false_iff.1 ((during_false_iff.2 h).step he)

end Sys2Proof.Machine
end

section
/-! Which operations change memory, and that an engine does not see the store buffer (20_memory.md R104 to R106, R120). -/

namespace Sys2Proof.Machine

/-! The operations that change no byte of memory. -/

theorem mem_of_next {s t u : State} (h : (.next u : Res) = .next t) (hu : u.mem = s.mem) : t.mem = s.mem := by
  cases h
  exact hu

theorem mmioWrite_mem {c : Chan} {r : Reg} {v : Word} {s t : State} (h : mmioWrite c r v s = .next t) :
    t.mem = s.mem := by
  unfold mmioWrite at h
  split at h
  · cases h
  cases r with
  | dmacr => obtain ⟨-, -, ⟨-, rfl⟩ | ⟨-, -, rfl⟩ | ⟨-, -, rfl⟩⟩ := writeDmacr_next.1 h <;> rfl
  | dmasr | taildescMsb => exact mem_of_next h rfl
  | curdescLsb =>
    obtain ⟨-, -, rfl⟩ := writeCurdescLsb_next.1 h
    rfl
  | curdescMsb =>
    obtain ⟨-, rfl⟩ := writeCurdescMsb_next.1 h
    rfl
  | taildescLsb =>
    obtain ⟨-, rfl⟩ := writeTaildescLsb_next.1 h
    rfl

theorem execLd32_mem {a : Addr} {s t : State} (h : execLd32 a s = .next t) : t.mem = s.mem := by
  unfold execLd32 at h
  split at h
  · cases h
  · split at h
    · cases h
    · obtain ⟨ls, ds, n, hl⟩ := s.afterLoad_eq a
      rw [hl] at h
      exact mem_of_next h rfl

theorem execSt32_mem {a : Addr} {v : Word} {s t : State} (h : execSt32 a v s = .next t) : t.mem = s.mem := by
  unfold execSt32 at h
  split at h
  · cases h
  · exact mem_of_next h rfl

theorem execFence_mem {s t : State} (h : execFence s = .next t) : t.mem = s.mem := by
  unfold execFence at h
  split at h <;> exact mem_of_next h rfl

theorem execDcInval_mem {a : Addr} {n : Nat} {s t : State} (h : execDcInval a n s = .next t) : t.mem = s.mem := by
  obtain ⟨ls, hi⟩ := s.invalidate_eq a.toNat n
  rw [execDcInval, hi] at h
  exact mem_of_next h rfl

theorem execCsEnter_mem {c : Nat} {s t : State} (h : execCsEnter c s = .next t) : t.mem = s.mem := by
  unfold execCsEnter at h
  split at h
  · exact mem_of_next h rfl
  · exact mem_of_next h rfl
  · split at h
    · cases h
    · obtain ⟨o, -, rfl⟩ := onLine_next.1 h
      rfl

theorem execCsExit_mem {k : Key} {s t : State} (h : execCsExit k s = .next t) : t.mem = s.mem := by
  cases k with
  | global | both => exact mem_of_next h rfl
  | line =>
    obtain ⟨o, -, rfl⟩ := onLine_next.1 h
    rfl

theorem execCallback_mem {c : Nat} {r : CbResult} {s t : State} (h : execCallback c r s = .next t) :
    t.mem = s.mem := by
  unfold execCallback at h
  split at h
  · cases h
  · exact mem_of_next h rfl

theorem execConfigure_mem {c : Nat} {req : CfgReq} {s t : State} (h : execConfigure c req s = .next t) :
    t.mem = s.mem := by
  obtain ⟨-, rfl⟩ | ⟨ch, -, -, h⟩ := withChannel_next.1 h
  · rfl
  · split at h
    · cases h
    · split at h
      · exact mem_of_next h rfl
      · split at h <;> exact mem_of_next h rfl

theorem execInit_mem {s t : State} (h : execInit s = .next t) : t.mem = s.mem := by
  unfold execInit at h
  split at h
  · cases h
  · split at h <;> exact mem_of_next h rfl

/-- A step that is taken only where it is enabled leaves memory, if it does so when taken. -/
theorem whenEnabled_mem {q : Bool} {s t : State} {r : Res} (h : whenEnabled q s r = .next t)
    (hr : r = .next t → t.mem = s.mem) : t.mem = s.mem := by
  rcases whenEnabled_next.1 h with ⟨-, h⟩ | ⟨-, rfl⟩
  · exact hr h
  · rfl

@[simp] theorem fetchStep_mem (c : Chan) (s : State) : (fetchStep c s).mem = s.mem := by
  simp only [fetchStep]
  split
  · split
    · rfl
    · split <;> rfl
  · rfl
  · rfl

@[simp] theorem xferTxStep_mem (s : State) : (xferTxStep s).mem = s.mem := by
  simp only [xferTxStep]
  split <;> rfl

theorem execEnvFill_mem {s t : State} (h : execEnvFill s = .next t) : t.mem = s.mem := by
  obtain ⟨ls, hf⟩ := s.fillLine_eq (s.choice 0 % 2 ^ 64)
  refine whenEnabled_mem h fun h => ?_
  rw [hf] at h
  exact mem_of_next h rfl

/-- Memory is written by an inbound transfer, a writeback, a drain, an eviction and a flush alone (R105, R107, R124). -/
theorem exec_mem {i : Instr} {s t : State} (h : exec i s = .next t) :
    t.mem = s.mem ∨ i = .eXferRx ∨ (∃ c, i = .eWb c) ∨ i = .envDrain ∨ i = .envEvict ∨ ∃ a n, i = .dcFlush a n := by
  by_cases writer : i = .eXferRx ∨ (∃ c, i = .eWb c) ∨ i = .envDrain ∨ i = .envEvict ∨ ∃ a n, i = .dcFlush a n
  · exact .inr writer
  refine .inl ?_
  cases i with
  | eXferRx | eWb | envDrain | envEvict | dcFlush => simp at writer
  | rdTxDmacr | rdTxDmasr | rdTxCurdescLsb | rdTxCurdescMsb | rdTxTaildescLsb | rdTxTaildescMsb
  | rdRxDmacr | rdRxDmasr | rdRxCurdescLsb | rdRxCurdescMsb | rdRxTaildescLsb | rdRxTaildescMsb
  | sleep | log | chanFilter => exact mem_of_next h rfl
  | wrTxDmacr | wrTxDmasr | wrTxCurdescLsb | wrTxCurdescMsb | wrTxTaildescLsb | wrTxTaildescMsb
  | wrRxDmacr | wrRxDmasr | wrRxCurdescLsb | wrRxCurdescMsb | wrRxTaildescLsb | wrRxTaildescMsb =>
    simp only [exec] at h
    exact mmioWrite_mem h
  | ld32 => exact execLd32_mem h
  | st32 => exact execSt32_mem h
  | fence => exact execFence_mem h
  | dcInval => exact execDcInval_mem h
  | irqEnable | irqDisable | irqIsEnabled =>
    obtain ⟨o, -, rfl⟩ := onLine_next.1 h
    rfl
  | csEnter => exact execCsEnter_mem h
  | csExit => exact execCsExit_mem h
  | callback => exact execCallback_mem h
  | relink | isr =>
    obtain ⟨ch, -, -, h⟩ := withReady_next.1 h
    exact mem_of_next h rfl
  | populate | reclaim =>
    obtain ⟨ch, -, -, h⟩ := withReady_next.1 h
    exact mem_of_next (whenConfigured_next.1 h).2 rfl
  | start =>
    obtain ⟨-, rfl⟩ | ⟨ch, -, -, h⟩ := withChannel_next.1 h
    · rfl
    · exact mem_of_next (whenConfigured_next.1 h).2 rfl
  | stop | getStatus | reload =>
    obtain ⟨-, rfl⟩ | ⟨ch, -, -, h⟩ := withChannel_next.1 h
    · rfl
    · exact mem_of_next h rfl
  | configure => exact execConfigure_mem h
  | init => exact execInit_mem h
  | eHalt | eDelay | eResetDone | irqTake => exact whenEnabled_mem h fun h => mem_of_next h rfl
  | eFetch c => exact whenEnabled_mem h fun h => mem_of_next h (fetchStep_mem c s)
  | eXferTx => exact whenEnabled_mem h fun h => mem_of_next h (xferTxStep_mem s)
  | envFill => exact execEnvFill_mem h

/-- Settles O53: an operation that is none of the five leaves memory as it is. -/
theorem onlyTheseChangeMemory : Obligations.OnlyTheseChangeMemory := by
  intro i s t x h changed
  exact (exec_mem h).resolve_left fun same => changed (by rw [same])

/-! An engine's steps beside a store buffer (R106, R123). -/

/-- The state with other pending stores. -/
def State.withSb (s : State) (b : List SbEntry) : State := { s with sb := b }

section
variable (s : State) (b : List SbEntry)

@[simp] theorem State.withSb_cfg : (s.withSb b).cfg = s.cfg := rfl
@[simp] theorem State.withSb_eng : (s.withSb b).eng = s.eng := rfl
@[simp] theorem State.withSb_mem : (s.withSb b).mem = s.mem := rfl
@[simp] theorem State.withSb_choice (k : Nat) : (s.withSb b).choice k = s.choice k := rfl
@[simp] theorem State.withSb_setMem (m : Memory) : (s.withSb b).setMem m = (s.setMem m).withSb b := rfl

/-- A step beside other pending stores, from what it does when taken. -/
theorem whenEnabled_withSb (q : Bool) (r : Res) :
    whenEnabled q (s.withSb b) (mapNext (State.withSb · b) r) = mapNext (State.withSb · b) (whenEnabled q s r) := by
  cases q <;> rfl

theorem fetchStep_withSb (c : Chan) : fetchStep c (s.withSb b) = (fetchStep c s).withSb b := by
  simp only [fetchStep, State.withSb_cfg, State.withSb_eng, State.withSb_mem, State.withSb_choice]
  generalize busResp s.cfg (s.eng.get c).fp 52 false = r
  cases r with
  | okay =>
    by_cases finished : cmpltBit (fetchSnap s.mem (s.eng.get c).fp).status = true
    · simp only [finished, if_true]
      rfl
    · by_cases empty : lenField (fetchSnap s.mem (s.eng.get c).fp).control = 0
      · simp only [finished, empty, if_true]
        rfl
      · simp only [finished, empty, if_false]
        rfl
  | slverr | decerr => rfl

theorem xferTxStep_withSb : xferTxStep (s.withSb b) = (xferTxStep s).withSb b := by
  simp only [xferTxStep, State.withSb_cfg, State.withSb_eng, State.withSb_mem]
  generalize busResp s.cfg s.eng.tx.snap.bufAddr (lenField s.eng.tx.snap.control).toNat false = r
  cases r <;> rfl

theorem xferRxStep_withSb : xferRxStep (s.withSb b) = (xferRxStep s).withSb b := by
  simp only [xferRxStep, State.withSb_cfg, State.withSb_eng, State.withSb_mem, State.withSb_choice]
  by_cases empty : s.choice 0 % ((lenField s.eng.rx.snap.control).toNat + 1) = 0
  · simp only [empty, if_true]
    rfl
  · simp only [empty, if_false]
    generalize busResp s.cfg s.eng.rx.snap.bufAddr _ true = r
    cases r <;> rfl

theorem State.memWrites_withSb (ws : List (Addr × List Byte)) :
    (s.withSb b).memWrites ws = ((s.memWrites ws).1.withSb b, (s.memWrites ws).2) := by
  induction ws generalizing s with
  | nil => rfl
  | cons w ws ih =>
    obtain ⟨a, bs⟩ := w
    simp only [State.memWrites, State.memWrite, State.withSb_cfg, State.withSb_mem, State.withSb_setMem]
    cases busResp s.cfg a bs.length true with
    | okay => exact ih _
    | slverr | decerr => rfl

theorem wbStep_withSb (c : Chan) : wbStep c (s.withSb b) = mapNext (State.withSb · b) (wbStep c s) := by
  simp only [wbStep, State.withSb_cfg, State.withSb_eng, State.memWrites_withSb]
  generalize s.memWrites (wbWrites c (s.eng.get c).snap.addr (s.eng.get c).xres) = written
  obtain ⟨t, r⟩ := written
  generalize busResp s.cfg (statusAddr (s.eng.get c).snap.addr) (wbSpan c) true = span
  cases span with
  | okay =>
    cases r with
    | okay =>
      by_cases misaligned : (!aligned64 (s.eng.get c).snap.next) = true
      · simp only [misaligned, if_true, mapNext]
      · simp only [misaligned, mapNext]
        rfl
    | slverr | decerr => rfl
  | slverr | decerr => rfl

/-- A step of an engine beside other pending stores is the same step, and keeps them. -/
theorem exec_withSb {i : Instr} {c : Chan} (hi : engineChan i = some c) :
    exec i (s.withSb b) = mapNext (State.withSb · b) (exec i s) := by
  cases i with
  | eHalt c =>
    exact whenEnabled_withSb s b (s.haltEnabled c) (.next (s.setEng c { s.eng.get c with phase := .halted }))
  | eFetch c =>
    have taken := congrArg (Host.Outcome.next (φ := Fault) (ρ := Refusal)) (fetchStep_withSb s b c)
    exact (congrArg _ taken).trans (whenEnabled_withSb s b (s.fetchEnabled c) (.next (fetchStep c s)))
  | eXferTx =>
    have taken := congrArg (Host.Outcome.next (φ := Fault) (ρ := Refusal)) (xferTxStep_withSb s b)
    exact (congrArg _ taken).trans (whenEnabled_withSb s b (s.xferEnabled .tx) (.next (xferTxStep s)))
  | eXferRx =>
    have taken := congrArg (Host.Outcome.next (φ := Fault) (ρ := Refusal)) (xferRxStep_withSb s b)
    exact (congrArg _ taken).trans (whenEnabled_withSb s b (s.xferEnabled .rx) (.next (xferRxStep s)))
  | eWb c => exact (congrArg _ (wbStep_withSb s b c)).trans (whenEnabled_withSb s b (s.wbEnabled c) (wbStep c s))
  | eDelay c =>
    exact whenEnabled_withSb s b (s.delayEnabled c) (.next (s.setEng c (delayFired (s.eng.get c))))
  | _ => simp [engineChan] at hi

end

/-- The two low bits of an address say whether 4 divides it. -/
theorem aligned4_iff (a : Addr) : aligned4 a = true ↔ a.toNat % 4 = 0 := by
  simp [aligned4, ← BitVec.toNat_inj]

/-- Settles O17: an aligned store is buffered, a misaligned one refused, and `exec_withSb` is the engine's blindness to
it. -/
theorem storeWaitsInTheBuffer : Obligations.StoreWaitsInTheBuffer := by
  refine ⟨fun s a v => ⟨fun ha => ?aligned, fun ha => ?misaligned⟩, fun s i c b hi => exec_withSb s b hi⟩
  case aligned =>
    simp only [exec, execSt32, (aligned4_iff a).2 ha]
    rfl
  case misaligned =>
    have odd : aligned4 a = false := by rwa [← Bool.not_eq_true, aligned4_iff]
    simp only [exec, execSt32, odd]
    rfl

end Sys2Proof.Machine
end

section
/-! The environment's steps on the host's memory path: which entry drains and where its bytes go, that no load sees a drain,
and which lines are evicted and filled (20_memory.md R107 to R109, R111, R124, R125). -/

namespace Sys2Proof.Machine

/-! The draw that a run gives next (00_scope.md R12). -/

/-- The state with one more draw to make first. -/
def State.withDraw (s : State) (d : Nat) : State := { s with draws := d :: s.draws }

theorem State.spend_withDraw (s : State) (d : Nat) : (s.withDraw d).spend 1 = s := by
  simp [State.withDraw, State.spend]

theorem State.choice_withDraw (s : State) (d : Nat) : (s.withDraw d).choice 0 = d := rfl

theorem State.drainByte_withDraw (s : State) (d : Nat) (alloc : Bool) (x : Nat) (b : Byte) :
    (s.withDraw d).drainByte alloc x b = (s.drainByte alloc x b).withDraw d := by
  cases hc : cacheable s.cfg x with
  | false => rw [drainByte_uncached hc, drainByte_uncached (s := s.withDraw d) hc]; rfl
  | true =>
    cases hl : cacheFind s.cache (lineBase s.cfg x) with
    | some l => rw [drainByte_hit hc hl, drainByte_hit (s := s.withDraw d) hc hl]; rfl
    | none =>
      cases alloc with
      | false => rw [drainByte_around hc hl, drainByte_around (s := s.withDraw d) hc hl]; rfl
      | true => rw [drainByte_fill hc hl, drainByte_fill (s := s.withDraw d) hc hl]; rfl

theorem State.drainBytes_withDraw (s : State) (d : Nat) (alloc : Bool) (x : Nat) (bs : List Byte) :
    (s.withDraw d).drainBytes alloc x bs = (s.drainBytes alloc x bs).withDraw d := by
  induction bs generalizing s x with
  | nil => rfl
  | cons b bs ih => rw [State.drainBytes, State.drainByte_withDraw, ih]; rfl

/-! Which entry drains (R107, R111). -/

/-- ENV_DRAIN on a drawn word takes its oldest entry; it is refused where the bus does not accept the store. -/
theorem exec_envDrain {s : State} {pre post : List SbEntry} {e : SbEntry} (hs : s.sb = pre ++ e :: post)
    (oldest : ∀ x ∈ pre, x.addr ≠ e.addr) (drawn : s.drainWord (s.choice 0) = e.addr) :
    exec .envDrain s =
      if busResp s.cfg e.addr 4 true ≠ .okay then .fault (.hostBusError e.addr)
      else .next (((s.withSb (pre ++ post)).drainBytes (drawnBool (s.choice 0 / (sbWords s.sb).length)) e.addr.toNat
        (wordBytes e.val)).spend 1) := by
  have pending : s.sb.isEmpty = false := by simp [hs]
  have found : sbOldest s.sb e.addr = some e := sbOldest_eq_some.2 ⟨rfl, pre, post, hs, oldest⟩
  have removed : sbRemove s.sb e.addr = pre ++ post := by rw [hs, sbRemove_append oldest]
  simp only [exec, execEnvDrain, pending, whenEnabled, drainStep, drawn, found, removed]
  rfl

theorem exec_envDrain_refused {s : State} {pre post : List SbEntry} {e : SbEntry} (hs : s.sb = pre ++ e :: post)
    (oldest : ∀ x ∈ pre, x.addr ≠ e.addr) (drawn : s.drainWord (s.choice 0) = e.addr)
    (refused : busResp s.cfg e.addr 4 true ≠ .okay) : exec .envDrain s = .fault (.hostBusError e.addr) := by
  rw [exec_envDrain hs oldest drawn, if_pos refused]

/-- The draw's other part says whether an uncached line is filled. -/
theorem exec_envDrain_accepted {s : State} {pre post : List SbEntry} {e : SbEntry} (hs : s.sb = pre ++ e :: post)
    (oldest : ∀ x ∈ pre, x.addr ≠ e.addr) (drawn : s.drainWord (s.choice 0) = e.addr)
    (accepted : busResp s.cfg e.addr 4 true = .okay) {alloc : Bool}
    (fills : drawnBool (s.choice 0 / (sbWords s.sb).length) = alloc) :
    exec .envDrain s =
      .next (((s.withSb (pre ++ post)).drainBytes alloc e.addr.toNat (wordBytes e.val)).spend 1) := by
  rw [exec_envDrain hs oldest drawn, if_neg (not_not_intro accepted), fills]

/-- The drawn word is one that has an entry. -/
theorem State.drainWord_mem {s : State} (h : s.sb ≠ []) (d : Nat) : s.drainWord d ∈ sbWords s.sb := by
  have inside := Nat.mod_lt d (sbWords_length_pos h)
  rw [State.drainWord, List.getD_eq_getElem _ _ inside]
  exact List.getElem_mem inside

/-- What drains is an entry with no older one for its word. -/
theorem State.drainWord_oldest {s : State} (h : s.sb ≠ []) (d : Nat) :
    ∃ pre e post, s.sb = pre ++ e :: post ∧ (∀ x ∈ pre, x.addr ≠ e.addr) ∧ s.drainWord d = e.addr := by
  obtain ⟨x, hx, word⟩ := mem_sbWords.1 (State.drainWord_mem h d)
  cases found : sbOldest s.sb (s.drainWord d) with
  | none =>
    have none_for := List.find?_eq_none.1 found x hx
    simp [word] at none_for
  | some e =>
    obtain ⟨addr, pre, post, hs, oldest⟩ := sbOldest_eq_some.1 found
    exact ⟨pre, e, post, hs, addr ▸ oldest, addr.symm⟩

/-- Each pending word is drawn by some draw, with either choice of filling its line. -/
theorem State.exists_draw {s : State} {a : Addr} (ha : a ∈ sbWords s.sb) (alloc : Bool) :
    ∃ d, s.drainWord d = a ∧ drawnBool (d / (sbWords s.sb).length) = alloc := by
  obtain ⟨k, hk, rfl⟩ := List.getElem_of_mem ha
  have pos : 0 < (sbWords s.sb).length := by omega
  refine ⟨k + (sbWords s.sb).length * alloc.toNat, ?_, ?_⟩
  · rw [State.drainWord, Nat.add_mul_mod_self_left, Nat.mod_eq_of_lt hk, List.getD_eq_getElem _ _ hk]
  · rw [Nat.add_mul_div_left _ _ pos, Nat.div_eq_of_lt hk]
    cases alloc <;> rfl

/-- An aligned word does not reach the end of the address space. -/
theorem word_fits {a : Addr} (ha : a.toNat % 4 = 0) : a.toNat + 4 ≤ 2 ^ 64 := by
  have := a.isLt
  omega

/-! Where a byte goes (R107, R125). -/

/-- A byte of a cached line is stored in the line, which becomes dirty. -/
theorem State.drainByte_cached {s : State} (hr : basesRise s.cache = true) {x : Nat} (hc : cacheable s.cfg x = true)
    {l : CacheLine} (hl : l ∈ s.cache) (hb : l.base = lineBase s.cfg x) (alloc : Bool) (b : Byte) :
    ∃ ls, s.drainByte alloc x b = s.setCache ls ∧ basesRise ls = true ∧
      ∀ k, k ∈ ls ↔ (k ∈ s.cache ∧ k ≠ l) ∨ k = ⟨l.base, l.bytes.set (x - l.base) b, true⟩ := by
  have found := cacheFind_of_mem hr hl
  rw [hb] at found
  refine ⟨_, State.drainByte_hit hc found alloc b, cachePut_basesRise hr _, fun k => ?_⟩
  rw [mem_cachePut hr]
  refine or_congr (and_congr_right fun hk => not_congr ⟨fun h => eq_of_base_eq hr hk hl h, fun h => ?_⟩) Iff.rfl
  rw [h]
  rfl

/-- Where its line is not cached, the line may join the cache with memory's bytes and the byte in it. -/
theorem State.drainByte_filled {s : State} (hr : basesRise s.cache = true) {x : Nat} (hc : cacheable s.cfg x = true)
    (hn : ∀ l ∈ s.cache, l.base ≠ lineBase s.cfg x) (b : Byte) :
    ∃ ls, s.drainByte true x b = s.setCache ls ∧ basesRise ls = true ∧
      ∀ k, k ∈ ls ↔ k ∈ s.cache ∨ k = ⟨lineBase s.cfg x,
        (s.mem.readBytes (lineBase s.cfg x) s.cfg.line).set (x - lineBase s.cfg x) b, true⟩ :=
  ⟨_, State.drainByte_fill hc (cacheFind_eq_none.2 hn) b, cachePut_basesRise hr _, fun k => mem_cachePut_new hn k⟩

/-- Settles O19: which entry drains is `exec_envDrain`'s, which one the draw's, and where a byte goes `drainByte`'s. -/
theorem drainTakesAnOldestEntry : Obligations.DrainTakesAnOldestEntry := by
  refine ⟨fun s pending => ?taken, fun s pre e post alloc hs oldest accepted => ?any, fun s alloc a v hm => ?coherent,
    fun s alloc a v ha => ?bytes, fun s alloc x base b hm hr hbase => ?byte⟩
  case taken =>
    obtain ⟨pre, e, post, hs, oldest, drawn⟩ := State.drainWord_oldest pending (s.choice 0)
    exact ⟨pre, e, post, hs, oldest, exec_envDrain_refused hs oldest drawn,
      fun accepted => ⟨_, exec_envDrain_accepted hs oldest drawn accepted rfl⟩⟩
  case any =>
    have word : e.addr ∈ sbWords s.sb := mem_sbWords.2 ⟨e, by rw [hs]; simp, rfl⟩
    obtain ⟨d, drawn, fills⟩ := State.exists_draw word alloc
    refine ⟨d, (exec_envDrain_accepted (s := s.withDraw d) hs oldest drawn accepted fills).trans ?_⟩
    have commuted := State.drainBytes_withDraw (s.withSb (pre ++ post)) d alloc e.addr.toNat (wordBytes e.val)
    exact congrArg _ ((congrArg (State.spend · 1) commuted).trans (State.spend_withDraw _ d))
  case coherent => exact State.drainBytes_coherent hm alloc a.toNat (wordBytes v)
  case bytes =>
    have fits := word_fits ha
    have at0 : a.toNat % 2 ^ 64 = a.toNat := Nat.mod_eq_of_lt (by omega)
    have at1 : (a.toNat + 1) % 2 ^ 64 = a.toNat + 1 := Nat.mod_eq_of_lt (by omega)
    have at2 : (a.toNat + 1 + 1) % 2 ^ 64 = a.toNat + 2 := Nat.mod_eq_of_lt (by omega)
    have at3 : (a.toNat + 1 + 1 + 1) % 2 ^ 64 = a.toNat + 3 := Nat.mod_eq_of_lt (by omega)
    simp only [wordBytes, State.drainBytes, at0, at1, at2, at3]
  case byte =>
    subst hbase
    refine ⟨fun uncached => ?_, fun cached => ?_⟩
    · exact State.drainByte_uncached (by rw [cacheable_of_noncoherent hm, uncached]; rfl) alloc b
    · have hc : cacheable s.cfg x = true := by rw [cacheable_of_noncoherent hm, cached]; rfl
      refine ⟨fun l hl hb => ?_, fun hn => ⟨?_, ?_⟩⟩
      · rw [← hb]
        exact State.drainByte_cached hr hc hl hb alloc b
      · rintro rfl
        exact State.drainByte_around hc (cacheFind_eq_none.2 hn) b
      · rintro rfl
        exact State.drainByte_filled hr hc hn b

/-! What the host sees of a drain (R108). -/

theorem lineBase_le (p : Params) (x : Nat) : lineBase p x ≤ x := Nat.div_mul_le_self x p.line

theorem offset_lt {p : Params} (hl : 0 < p.line) (x : Nat) : x - lineBase p x < p.line := by
  have := Nat.lt_div_mul_add (a := x) hl
  unfold lineBase
  omega

/-- A cacheable byte is that of its line, cached or as a fill would copy it. -/
theorem State.hostByte_cacheable {s : State} (hl : 0 < s.cfg.line) {y : Nat} (hy : y < 2 ^ 64)
    (hc : cacheable s.cfg y = true) :
    s.hostByte y = (s.lineAt y).bytes.getD (y - lineBase s.cfg y) Memory.blank := by
  unfold State.hostByte State.lineAt
  rw [if_pos hc]
  cases hf : cacheFind s.cache (lineBase s.cfg y) with
  | some l => simp only [Option.getD_some, (cacheFind_some hf).2]
  | none =>
    have inside : y - lineBase s.cfg y < (s.mem.readBytes (lineBase s.cfg y) s.cfg.line).length := by
      rw [Memory.readBytes_length]
      exact offset_lt hl y
    simp only [Option.getD_none, cleanLine]
    rw [List.getD_eq_getElem _ _ inside, Memory.readBytes_get, Nat.add_sub_cancel' (lineBase_le s.cfg y),
      Nat.mod_eq_of_lt hy]

theorem State.hostByte_uncacheable {s : State} {y : Nat} (hc : cacheable s.cfg y = false) :
    s.hostByte y = s.mem.read y := by
  simp [State.hostByte, hc]

/-- A byte stored in memory, its line not cached, is what the host sees there; every other byte is seen as before. -/
theorem State.hostByte_write {s : State} (hm : s.mem.wf = true) {x : Nat}
    (hx : cacheable s.cfg x = true → cacheFind s.cache (lineBase s.cfg x) = none) (y : Nat) (b : Byte) :
    (s.setMem (s.mem.write x b)).hostByte y = if y = x then b else s.hostByte y := by
  simp only [State.hostByte, State.setMem_cfg, State.setMem_cache, State.setMem_mem, Memory.read_write hm]
  by_cases h : y = x
  · subst h
    cases hc : cacheable s.cfg y with
    | false => simp
    | true => simp [hx hc]
  · simp only [h, if_false]

/-- The line of an address after a line is put. -/
theorem State.lineAt_put (s : State) {l : CacheLine} {x : Nat} (hl : l.base = lineBase s.cfg x) (y : Nat) :
    (s.setCache (cachePut s.cache l)).lineAt y = if lineBase s.cfg y = lineBase s.cfg x then l else s.lineAt y := by
  simp only [State.lineAt, State.setCache_cfg, State.setCache_cache, State.setCache_mem, cacheFind_cachePut, hl]
  split <;> rfl

/-- A byte stored in its line, the line in the cache, is what the host sees there; every other byte is seen as
before. -/
theorem State.hostByte_put {s : State} (legal : cacheLegal s.cfg s.cache = true) (hl : 0 < s.cfg.line) {x y : Nat}
    (hx : x < 2 ^ 64) (hy : y < 2 ^ 64) (hcx : cacheable s.cfg x = true) (b : Byte) :
    (s.setCache (cachePut s.cache (dirtied (s.lineAt x) x b))).hostByte y = if y = x then b else s.hostByte y := by
  cases hcy : cacheable s.cfg y with
  | false =>
    have other : y ≠ x := by
      rintro rfl
      rw [hcx] at hcy
      cases hcy
    rw [State.hostByte_uncacheable hcy, State.hostByte_uncacheable (by exact hcy), if_neg other]
    rfl
  | true =>
    have put := State.lineAt_put s (l := dirtied (s.lineAt x) x b) (s.lineAt_base x) y
    rw [State.hostByte_cacheable hl hy hcy, State.hostByte_cacheable (by exact hl) hy (by exact hcy), put]
    have below := lineBase_le s.cfg x
    have inside := offset_lt hl x
    obtain ⟨-, -, whole⟩ := lineLegal_iff.1 (State.lineAt_lineLegal legal hx)
    by_cases same : lineBase s.cfg y = lineBase s.cfg x
    · have line : s.lineAt y = s.lineAt x := by unfold State.lineAt; rw [same]
      have below' := lineBase_le s.cfg y
      simp only [same, if_true, line, dirtied, State.lineAt_base, State.setCache_cfg, List.getD_eq_getElem?_getD,
        List.getElem?_set]
      by_cases h : y = x
      · subst h
        simp [whole, inside]
      · have offsets : ¬ x - lineBase s.cfg x = y - lineBase s.cfg x := by omega
        simp only [offsets, h, if_false]
    · have other : y ≠ x := fun h => same (h ▸ rfl)
      simp only [same, other, if_false, State.setCache_cfg]

/-- After the drain of a byte the host sees that byte, and every other one as before. -/
theorem State.hostByte_drainByte {s : State} (hm : s.mem.wf = true) (legal : cacheLegal s.cfg s.cache = true)
    (hl : 0 < s.cfg.line) (alloc : Bool) {x y : Nat} (hx : x < 2 ^ 64) (hy : y < 2 ^ 64) (b : Byte) :
    (s.drainByte alloc x b).hostByte y = if y = x then b else s.hostByte y := by
  rcases s.drainByte_cases alloc x b with ⟨hd, uncached⟩ | ⟨hd, hcx⟩ <;> rw [hd]
  · exact State.hostByte_write hm uncached y b
  · exact State.hostByte_put legal hl hx hy hcx b

/-- After the drain of several bytes the host sees them in their place, and every other byte as before. -/
theorem State.hostByte_drainBytes {s : State} (hm : s.mem.wf = true) (legal : cacheLegal s.cfg s.cache = true)
    (hl : 0 < s.cfg.line) (alloc : Bool) {x y : Nat} {bs : List Byte} (fits : x + bs.length ≤ 2 ^ 64)
    (hy : y < 2 ^ 64) :
    (s.drainBytes alloc x bs).hostByte y = if x ≤ y then bs.getD (y - x) (s.hostByte y) else s.hostByte y := by
  induction bs generalizing s x with
  | nil => simp [State.drainBytes]
  | cons b bs ih =>
    rw [List.length_cons] at fits
    have hx : x < 2 ^ 64 := by omega
    have legal' := State.drainByte_cacheLegal legal alloc hx b
    have seen := State.hostByte_drainByte hm legal hl alloc hx hy b
    rw [← s.drainByte_cfg alloc x b] at legal' hl
    rw [State.drainBytes, Nat.mod_eq_of_lt hx, ih (State.drainByte_wf hm alloc hx b) legal' hl (by omega), seen]
    rcases Nat.lt_trichotomy y x with h | rfl | h
    · simp only [show ¬ x ≤ y by omega, show ¬ x + 1 ≤ y by omega, show ¬ y = x by omega, if_false]
    · simp
    · have next : y - x = (y - (x + 1)) + 1 := by omega
      simp only [show x ≤ y by omega, show x + 1 ≤ y by omega, show ¬ y = x by omega, if_true, if_false, next,
        List.getD_cons_succ]

/-- After the drain of a word the host sees it below the store buffer, and every other word as before. -/
theorem State.hostWord_drainBytes {s : State} (hm : s.mem.wf = true) (legal : cacheLegal s.cfg s.cache = true)
    (hl : 0 < s.cfg.line) (alloc : Bool) {a x : Addr} (ha : a.toNat % 4 = 0) (hx : x.toNat % 4 = 0) (v : Word) :
    (s.drainBytes alloc x.toNat (wordBytes v)).hostWord a = if a = x then v else s.hostWord a := by
  have fits := word_fits ha
  have seen (k : Nat) (hk : k < 4) := State.hostByte_drainBytes hm legal hl alloc (bs := wordBytes v)
    (word_fits hx) (show a.toNat + k < 2 ^ 64 by omega)
  have at1 : (a.toNat + 1) % 2 ^ 64 = a.toNat + 1 := Nat.mod_eq_of_lt (by omega)
  have at2 : (a.toNat + 2) % 2 ^ 64 = a.toNat + 2 := Nat.mod_eq_of_lt (by omega)
  have at3 : (a.toNat + 3) % 2 ^ 64 = a.toNat + 3 := Nat.mod_eq_of_lt (by omega)
  have seen0 := seen 0 (by decide)
  rw [Nat.add_zero] at seen0
  rw [State.hostWord, at1, at2, at3, seen0, seen 1 (by decide), seen 2 (by decide), seen 3 (by decide)]
  by_cases h : a = x
  · subst h
    simp only [Nat.le_refl, Nat.le_add_right, Nat.sub_self, Nat.add_sub_cancel_left, if_true]
    exact wordOfBytes_wordBytes v
  · have apart : a.toNat ≠ x.toNat := fun e => h (BitVec.eq_of_toNat_eq e)
    rw [if_neg h, State.hostWord, at1, at2, at3]
    by_cases before : a.toNat < x.toNat
    · simp only [show ¬ x.toNat ≤ a.toNat by omega, show ¬ x.toNat ≤ a.toNat + 1 by omega,
        show ¬ x.toNat ≤ a.toNat + 2 by omega, show ¬ x.toNat ≤ a.toNat + 3 by omega, if_false]
    · have beyond (k : Nat) (d : Byte) : (wordBytes v).getD (a.toNat + k - x.toNat) d = d :=
        List.getD_eq_default _ _ (by rw [wordBytes_length]; omega)
      have beyond0 := beyond 0
      rw [Nat.add_zero] at beyond0
      simp only [beyond0, beyond, ite_self]

/-- The oldest entry for a word leaves the buffer: a load forwards the same value, or none where that entry was the only
one. -/
theorem sbLookup_removed {pre post : List SbEntry} {e : SbEntry} (oldest : ∀ x ∈ pre, x.addr ≠ e.addr) (a : Addr) :
    sbLookup (pre ++ e :: post) a = (sbLookup (pre ++ post) a).or (if a = e.addr then some e.val else none) := by
  have single : sbLookup (e :: post) a = (sbLookup post a).or (if a = e.addr then some e.val else none) := by
    rw [sbLookup]
    cases sbLookup post a with
    | some v => rfl
    | none => simp only [eq_comm (a := e.addr), Option.none_or]
  rw [sbLookup_append, sbLookup_append, single]
  by_cases h : a = e.addr
  · rw [(sbLookup_eq_none (sb := pre)).2 (h ▸ oldest)]
    simp
  · simp [h]

theorem line_pos {p : Params} (h : paramsValid p = true) : 0 < p.line := by
  have pow : isPow2 p.line = true := by
    simp only [paramsValid, Bool.and_eq_true] at h
    tauto
  simp only [isPow2, List.any_eq_true, beq_iff_eq] at pow
  obtain ⟨k, -, hk⟩ := pow
  rw [← hk]
  exact Nat.two_pow_pos k

/-- What a drain does where it is taken: an oldest entry leaves the buffer and its bytes are stored (R107). -/
theorem exec_envDrain_next {s t : State} (h : exec .envDrain s = .next t) (pending : s.sb ≠ []) :
    ∃ pre e post alloc, s.sb = pre ++ e :: post ∧ (∀ x ∈ pre, x.addr ≠ e.addr) ∧
      t = ((s.withSb (pre ++ post)).drainBytes alloc e.addr.toNat (wordBytes e.val)).spend 1 := by
  obtain ⟨pre, e, post, hs, oldest, drawn⟩ := State.drainWord_oldest pending (s.choice 0)
  by_cases accepted : busResp s.cfg e.addr 4 true = .okay
  · rw [exec_envDrain_accepted hs oldest drawn accepted rfl, Host.Outcome.next.injEq] at h
    exact ⟨pre, e, post, _, hs, oldest, h.symm⟩
  · rw [exec_envDrain_refused hs oldest drawn accepted] at h
    cases h

theorem exec_envDrain_empty {s : State} (h : s.sb = []) : exec .envDrain s = .next s := by
  simp [exec, execEnvDrain, whenEnabled, h]

@[simp] theorem State.withSb_sb (s : State) (b : List SbEntry) : (s.withSb b).sb = b := rfl

@[simp] theorem State.hostWord_withSb (s : State) (b : List SbEntry) (a : Addr) :
    (s.withSb b).hostWord a = s.hostWord a := rfl

@[simp] theorem State.loadWord_spend (s : State) (k : Nat) (a : Addr) : (s.spend k).loadWord a = s.loadWord a := rfl

/-- Settles O20: the word drained was forwarded before, and is seen below the buffer after; every other one is as it
was. -/
theorem drainIsInvisibleToTheHost : Obligations.DrainIsInvisibleToTheHost := by
  intro s t a hp inv h ha
  by_cases pending : s.sb = []
  · rw [exec_envDrain_empty pending] at h
    cases h
    rfl
  obtain ⟨pre, e, post, alloc, hs, oldest, rfl⟩ := exec_envDrain_next h pending
  have he : e.addr.toNat % 4 = 0 := (aligned4_iff e.addr).1 (List.all_eq_true.1 inv.stores e (by rw [hs]; simp))
  have below := State.hostWord_drainBytes (s := s.withSb (pre ++ post)) inv.memory inv.cache (line_pos hp) alloc ha he
    e.val
  have forwarded := sbLookup_removed (post := post) oldest a
  rw [← hs] at forwarded
  rw [State.loadWord_spend, State.loadWord, State.sb_drainBytes, below, State.loadWord, forwarded, State.withSb_sb,
    State.hostWord_withSb]
  cases sbLookup (pre ++ post) a with
  | some v => rfl
  | none => split <;> rfl

/-! Evictions and fills (R124, R125). -/

theorem State.fillLine_uncached {s : State} {x : Nat} (hc : cacheable s.cfg x = true)
    (hn : ∀ l ∈ s.cache, l.base ≠ lineBase s.cfg x) :
    s.fillLine x = s.setCache (cachePut s.cache (cleanLine s.cfg s.mem (lineBase s.cfg x))) := by
  simp [State.fillLine, State.isCached, hc, cacheFind_eq_none.2 hn]

/-- Settles O48: each line that can be evicted is the one some draw picks, and a fill's draw is its address. -/
theorem evictAndFill : Obligations.EvictAndFill := by
  refine ⟨fun s l hm hl cached => ?evict, fun s x hm hx cached hn => ?fill⟩
  case evict =>
    have evictable : l ∈ s.evictable := by simp [State.evictable, hm, hl, cached]
    obtain ⟨k, hk, rfl⟩ := List.getElem_of_mem evictable
    refine ⟨k, ?_⟩
    have picked : (s.withDraw k).evictable[(s.withDraw k).choice 0 % (s.withDraw k).evictable.length]? =
        some s.evictable[k] := by
      rw [State.choice_withDraw]
      change s.evictable[k % s.evictable.length]? = _
      rw [Nat.mod_eq_of_lt hk, List.getElem?_eq_getElem hk]
    change execEnvEvict (s.withDraw k) = _
    rw [execEnvEvict, picked]
    exact congrArg _ (State.spend_withDraw (s.evictLine s.evictable[k]) k)
  case fill =>
    have hc : cacheable s.cfg x = true := by rw [cacheable_of_noncoherent hm, cached]; rfl
    have filled := State.fillLine_uncached (s := s.withDraw x) hc hn
    refine ⟨_, ?_, mem_cachePut_new (x := cleanLine s.cfg s.mem (lineBase s.cfg x)) hn⟩
    have enabled : ((s.withDraw x).cfg.cacheMode == .noncoherent) = true := beq_iff_eq.2 hm
    change execEnvFill (s.withDraw x) = _
    rw [execEnvFill, enabled, whenEnabled, if_pos rfl, State.choice_withDraw, Nat.mod_eq_of_lt hx, filled]
    exact congrArg _ (State.spend_withDraw (s.setCache _) x)

end Sys2Proof.Machine
end

section
/-! Decoding and encoding agree (30_encoding.md R140 to R147). -/

namespace Sys2Proof

/-! The fields of a word, which determine it. -/

/-- The class, the number and the low byte of a word (R140 to R144). -/
structure HasFields (w : OpWord) (cls num off : Nat) : Prop where
  class_eq : opClassBits w = cls
  number_eq : opNumber w = num
  offset_eq : (opOffset w).toNat = off

theorem hasFields_self (w : OpWord) : HasFields w (opClassBits w) (opNumber w) (opOffset w).toNat := ⟨rfl, rfl, rfl⟩

theorem toNat_field (w : OpWord) (start len : Nat) :
    (w.extractLsb' start len).toNat = w.toNat / 2 ^ start % 2 ^ len := by
  rw [BitVec.extractLsb'_toNat, Nat.shiftRight_eq_div_pow]

/-- The three fields cover the word. -/
theorem toNat_opWord (w : OpWord) : w.toNat = opClassBits w * 2 ^ 14 + opNumber w * 2 ^ 8 + (opOffset w).toNat := by
  simp only [opClassBits, opNumber, opOffset, toNat_field]
  omega

theorem HasFields.unique {v w : OpWord} {cls num off : Nat} (hv : HasFields v cls num off)
    (hw : HasFields w cls num off) : v = w := by
  apply BitVec.eq_of_toNat_eq
  rw [toNat_opWord v, toNat_opWord w, hv.class_eq, hv.number_eq, hv.offset_eq, hw.class_eq, hw.number_eq,
    hw.offset_eq]

/-- Where w[13:9] is 0, the number is the direction D (R142). -/
theorem opNumber_of_mmio {w : OpWord} (h : w.extractLsb' 9 5 = 0) : opNumber w = (w.getLsbD 8).toNat := by
  have zero : w.toNat / 2 ^ 9 % 2 ^ 5 = 0 := by rw [← toNat_field, h]; rfl
  simp only [opNumber, toNat_field, BitVec.getLsbD, Nat.toNat_testBit]
  omega

/-- Where w[7:1] is 0, the low byte is the channel bit C (R144). -/
theorem opOffset_of_auto {w : OpWord} (h : w.extractLsb' 1 7 = 0) : (opOffset w).toNat = (w.getLsbD 0).toNat := by
  have zero : w.toNat / 2 ^ 1 % 2 ^ 7 = 0 := by rw [← toNat_field, h]; rfl
  simp only [opOffset, toNat_field, BitVec.getLsbD, Nat.toNat_testBit]
  omega

/-! What the decoder does in each class. -/

theorem decode_mmio {w : OpWord} (h : opClassBits w = 0) (x : Args) : decode w x = decodeMmio w x.v := by
  simp only [decode, h]

theorem decode_hostp {w : OpWord} (h : opClassBits w = 1) (x : Args) : decode w x =
    if opOffset w ≠ 0 then .error (.illegalOp w) else orIllegal w (decodeHostp (opNumber w) x) := by
  simp only [decode, h]

theorem decode_proc {w : OpWord} (h : opClassBits w = 2) (x : Args) : decode w x =
    if opOffset w ≠ 0 then .error (.illegalOp w) else orIllegal w (decodeProc (opNumber w) x) := by
  simp only [decode, h]

theorem decode_auto {w : OpWord} (h : opClassBits w = 3) (x : Args) : decode w x =
    if w.extractLsb' 1 7 ≠ 0 then .error (.illegalOp w)
    else orIllegal w (decodeAuto (opNumber w) (w.getLsbD 0)) := by
  simp only [decode, h]

theorem opClassBits_cases (w : OpWord) :
    opClassBits w = 0 ∨ opClassBits w = 1 ∨ opClassBits w = 2 ∨ opClassBits w = 3 := by
  have : opClassBits w < 4 := (w.extractLsb' 14 2).isLt
  omega

/-- Outside class MMIO a word spells a row of its table, its zero field being zero (R143, R144). -/
theorem guarded_ok {z : Prop} [Decidable z] {w : OpWord} {o : Option Instr} {i : Instr} :
    (if ¬z then .error (.illegalOp w) else orIllegal w o) = .ok i ↔ z ∧ o = some i := by
  by_cases hz : z <;> cases o <;> simp [hz, orIllegal]

/-- Any other word there is an illegal operation (R150 d and e). -/
theorem guarded_error {z : Prop} [Decidable z] {w : OpWord} {o : Option Instr} {e : DecodeError} :
    (if ¬z then .error (.illegalOp w) else orIllegal w o) = .error e ↔ (¬z ∨ o = none) ∧ .illegalOp w = e := by
  by_cases hz : z <;> cases o <;> simp [hz, orIllegal]

/-! The rows of the tables: what each selects has the fields that select it. -/

theorem decodeRead_hasFields {off : Nat} {i : Instr} (h : decodeRead off = some i) :
    HasFields (encodeWord i) 0 0 off := by
  unfold decodeRead at h
  split at h <;> cases h <;> dsimp only [encodeWord] <;> exact ⟨rfl, rfl, rfl⟩

theorem decodeWrite_hasFields {off : Nat} {v : Word} {i : Instr} (h : decodeWrite off v = some i) :
    HasFields (encodeWord i) 0 1 off := by
  unfold decodeWrite at h
  split at h <;> cases h <;> dsimp only [encodeWord] <;> exact ⟨rfl, rfl, rfl⟩

theorem decodeHostp_hasFields {num : Nat} {x : Args} {i : Instr} (h : decodeHostp num x = some i) :
    HasFields (encodeWord i) 1 num 0 := by
  unfold decodeHostp at h
  split at h <;> cases h <;> dsimp only [encodeWord] <;> exact ⟨rfl, rfl, rfl⟩

theorem decodeProc_hasFields {num : Nat} {x : Args} {i : Instr} (h : decodeProc num x = some i) :
    HasFields (encodeWord i) 2 num 0 := by
  unfold decodeProc at h
  split at h <;> cases h <;> dsimp only [encodeWord] <;> exact ⟨rfl, rfl, rfl⟩

theorem decodeAuto_hasFields {num : Nat} {c : Bool} {i : Instr} (h : decodeAuto num c = some i) :
    HasFields (encodeWord i) 3 num c.toNat := by
  unfold decodeAuto at h
  split at h <;> cases h <;> dsimp only [encodeWord] <;> exact ⟨rfl, rfl, rfl⟩

theorem decodeMmio_hasFields {w : OpWord} {v : Word} {i : Instr} (h : decodeMmio w v = .ok i) :
    HasFields (encodeWord i) 0 (opNumber w) (opOffset w).toNat := by
  unfold decodeMmio at h
  split at h
  · cases h
  · rename_i zero
    rw [opNumber_of_mmio (not_not.1 zero)]
    split at h
    · cases h
    · split at h
      · cases h
        rename_i row
        cases write : w.getLsbD 8 <;> rw [write] at row
        · exact decodeRead_hasFields row
        · exact decodeWrite_hasFields row
      · cases h

theorem decode_hasFields {w : OpWord} {x : Args} {i : Instr} (h : decode w x = .ok i) :
    HasFields (encodeWord i) (opClassBits w) (opNumber w) (opOffset w).toNat := by
  obtain hc | hc | hc | hc := opClassBits_cases w <;> rw [hc]
  · rw [decode_mmio hc] at h
    exact decodeMmio_hasFields h
  · rw [decode_hostp hc, guarded_ok] at h
    obtain ⟨zero, row⟩ := h
    rw [zero]
    exact decodeHostp_hasFields row
  · rw [decode_proc hc, guarded_ok] at h
    obtain ⟨zero, row⟩ := h
    rw [zero]
    exact decodeProc_hasFields row
  · rw [decode_auto hc, guarded_ok] at h
    obtain ⟨zero, row⟩ := h
    rw [opOffset_of_auto zero]
    exact decodeAuto_hasFields row

/-- A word that decodes is the word of what it decodes to: both have the fields the tables select by. -/
theorem encodeWord_of_decode {w : OpWord} {x : Args} {i : Instr} (h : decode w x = .ok i) : encodeWord i = w :=
  (decode_hasFields h).unique (hasFields_self w)

/-- Each operation's own row of the tables (R142 to R145), and the slots of its row of R147. -/
theorem decode_encode (i : Instr) : decode (encodeWord i) (encodeArgs i) = .ok i := by
  cases i with
  | eHalt c | eFetch c | eWb c | eDelay c | irqTake c => cases c <;> rfl
  | _ => dsimp only [encodeWord]; rfl

/-- Settles O1: row by row in the one direction, and by the fields of the word in the other. -/
theorem decodeAndEncodeAgree : Obligations.DecodeAndEncodeAgree :=
  ⟨decode_encode, fun _ _ _ => encodeWord_of_decode⟩

/-- Settles O3, each word by evaluation. -/
theorem wordsOfTheTablesDecode : Obligations.WordsOfTheTablesDecode := by
  unfold Obligations.WordsOfTheTablesDecode
  and_intros <;> rfl

end Sys2Proof
end

section
/-! Words that spell no operation (30_encoding.md R150), and words placed for the next step (R140). -/

namespace Sys2Proof

/-! The selectors of each table that name none of its rows. -/

/-- The offsets of the twelve registers (R145). -/
def registerOffsets : List Nat := [0x00, 0x04, 0x08, 0x0C, 0x10, 0x14, 0x30, 0x34, 0x38, 0x3C, 0x40, 0x44]

theorem decodeRead_eq_none {off : Nat} (h : off ∉ registerOffsets) : decodeRead off = none := by
  unfold decodeRead
  split <;> simp [registerOffsets] at h ⊢

theorem decodeWrite_eq_none {off : Nat} (h : off ∉ registerOffsets) (v : Word) : decodeWrite off v = none := by
  unfold decodeWrite
  split <;> simp [registerOffsets] at h ⊢

theorem decodeHostp_eq_none {num : Nat} (h : num = 0 ∨ 0x0D < num) (x : Args) : decodeHostp num x = none := by
  unfold decodeHostp
  split <;> simp at h ⊢

theorem decodeProc_eq_none {num : Nat} (h : num = 0 ∨ 0x0B < num) (x : Args) : decodeProc num x = none := by
  unfold decodeProc
  split <;> simp at h ⊢

theorem decodeAuto_eq_none {num : Nat} {c : Bool}
    (h : num ∉ [0x01, 0x02, 0x03, 0x04, 0x05, 0x06, 0x10, 0x11, 0x12, 0x13] ∨
      (c = true ∧ num ∈ [0x06, 0x10, 0x11, 0x12])) : decodeAuto num c = none := by
  unfold decodeAuto
  split <;> simp at h ⊢

/-! Class MMIO (R150 a to c). -/

theorem decodeMmio_reserved {w : OpWord} (h : w.extractLsb' 9 5 ≠ 0) (v : Word) :
    decodeMmio w v = .error (.illegalOp w) := if_pos h

/-- The two low bits of an offset are its residue modulo 4. -/
theorem opOffset_mod_four (w : OpWord) : (opOffset w).toNat % 4 = (w.extractLsb' 0 2).toNat := by
  simp only [opOffset, toNat_field]
  omega

theorem decodeMmio_misaligned {w : OpWord} (hz : w.extractLsb' 9 5 = 0) (h : w.extractLsb' 0 2 ≠ 0) (v : Word) :
    decodeMmio w v = .error (.badRegisterAccess (opOffset w)) := by
  have odd : (opOffset w).toNat % 4 ≠ 0 := by
    rw [opOffset_mod_four]
    exact fun h0 => h (BitVec.eq_of_toNat_eq h0)
  rw [decodeMmio, if_neg (not_not.2 hz), if_pos odd]

theorem decodeMmio_unmapped {w : OpWord} (hz : w.extractLsb' 9 5 = 0) (ha : w.extractLsb' 0 2 = 0)
    (h : (opOffset w).toNat ∉ registerOffsets) (v : Word) : decodeMmio w v = .error (.unmappedRegister (opOffset w)) := by
  have aligned : (opOffset w).toNat % 4 = 0 := by rw [opOffset_mod_four, ha]; rfl
  rw [decodeMmio, if_neg (not_not.2 hz), if_neg (not_not.2 aligned), decodeRead_eq_none h,
    decodeWrite_eq_none h, ite_self]

/-! The other classes (R150 d and e). -/

theorem decode_hostp_illegal {w : OpWord} {x : Args} (hc : opClassBits w = 1)
    (h : opOffset w ≠ 0 ∨ decodeHostp (opNumber w) x = none) : decode w x = .error (.illegalOp w) :=
  (decode_hostp hc x).trans (guarded_error.2 ⟨h, rfl⟩)

theorem decode_proc_illegal {w : OpWord} {x : Args} (hc : opClassBits w = 2)
    (h : opOffset w ≠ 0 ∨ decodeProc (opNumber w) x = none) : decode w x = .error (.illegalOp w) :=
  (decode_proc hc x).trans (guarded_error.2 ⟨h, rfl⟩)

theorem decode_auto_illegal {w : OpWord} {x : Args} (hc : opClassBits w = 3)
    (h : w.extractLsb' 1 7 ≠ 0 ∨ decodeAuto (opNumber w) (w.getLsbD 0) = none) :
    decode w x = .error (.illegalOp w) :=
  (decode_auto hc x).trans (guarded_error.2 ⟨h, rfl⟩)

/-- A word of class AUTO is refused in no other way. -/
theorem decode_auto_error {w : OpWord} {x : Args} {e : DecodeError} (hc : opClassBits w = 3)
    (h : decode w x = .error e) : e = .illegalOp w := by
  rw [decode_auto hc, guarded_error] at h
  exact h.2.symm

/-- The class of the operation a word spells is the one its bits select (R140). -/
theorem opClassBits_encodeWord (i : Instr) : opClassBits (encodeWord i) = Laws.classBits i.opClass := by
  cases i with
  | eHalt c => exact Laws.Class.eHalt c
  | eFetch c => exact Laws.Class.eFetch c
  | eWb c => exact Laws.Class.eWb c
  | eDelay c => exact Laws.Class.eDelay c
  | irqTake c => exact Laws.Class.irqTake c
  | _ => dsimp only [encodeWord]; rfl

theorem opClass_auto_iff {w : OpWord} {x : Args} {i : Instr} (h : decode w x = .ok i) :
    i.opClass = .auto ↔ opClassBits w = 3 := by
  rw [← encodeWord_of_decode h, opClassBits_encodeWord]
  cases i.opClass <;> simp [Laws.classBits]

end Sys2Proof

namespace Sys2Proof.Machine

/-! A word refused as a program's, or as a turn's. -/

theorem programInstr_error {w : OpWord} {x : Args} {e : DecodeError} (h : decode w x = .error e) :
    programInstr w x = .fault (DecodeError.asFault e) := by
  rw [programInstr, h]

/-- An AUTO word is never issued by a program: it spells a step that a program may not name, or nothing (R150 d to f). -/
theorem programInstr_auto {w : OpWord} (hc : opClassBits w = 3) (x : Args) :
    programInstr w x = .fault (.illegalOp w) := by
  cases h : decode w x with
  | ok i => simp only [programInstr, h, (opClass_auto_iff h).2 hc, if_true]
  | error e =>
    rw [programInstr_error h, decode_auto_error hc h]
    rfl

theorem lineInstr_resolved {vals : List (Nat × Value)} {l : ProgLine} {x : Args} (h : resolveArgs vals l = .inl x) :
    lineInstr vals l = programInstr l.word x := by
  rw [lineInstr, h]

/-- The host's step on a line whose word spells no operation of a program. -/
theorem step_line_fault {s : State} {l : ProgLine} {rest : List Item} {x : Args} {e : Fault}
    (hp : paramsValid s.cfg = true) (ht : s.turn = .host) (hc : s.code = .line l :: rest)
    (hx : resolveArgs s.running.vals l = .inl x) (he : programInstr l.word x = .fault e) : step s = .fault e := by
  have hl : lineInstr (s.nextTurn.setCode rest).running.vals l = .fault e := by
    simpa [lineInstr_resolved hx] using he
  rw [step_eq_stepAs hp, ht, stepAs_host (by simpa using hp) (by simpa using hc), runItem, runLine, hl, mapNext]

/-- The step of a turn whose word spells no operation. -/
theorem step_auto_error {s : State} {w : OpWord} {e : DecodeError} (hp : paramsValid s.cfg = true)
    (ht : s.turn = .auto w) (he : decode w {} = .error e) : step s = .fault (DecodeError.asFault e) := by
  rw [step_eq_stepAs hp, ht, stepAs_eq (by simpa using hp), takeTurn, autoTurn, he]

/-- Settles O2: class by class the decoder's own refusals, and a step that meets one faults. -/
theorem wordsThatSpellNoOperationAreRefused : Obligations.WordsThatSpellNoOperationAreRefused := by
  refine ⟨fun w x hc => ?mmio, fun w x hc h => decode_hostp_illegal hc (h.imp_right (decodeHostp_eq_none · x)),
    fun w x hc h => decode_proc_illegal hc (h.imp_right (decodeProc_eq_none · x)),
    fun w x hc h => decode_auto_illegal hc (h.imp_right decodeAuto_eq_none),
    fun s l rest x hp ht hc hx => ?line, fun s w hp ht => ?turn⟩
  case mmio =>
    rw [decode_mmio hc]
    exact ⟨fun h => decodeMmio_reserved h x.v, fun hz h => decodeMmio_misaligned hz h x.v,
      fun hz ha h => decodeMmio_unmapped hz ha h x.v⟩
  case line =>
    have refused {e : DecodeError} (h : decode l.word x = .error e) : step s = .fault (DecodeError.asFault e) :=
      step_line_fault hp ht hc hx (programInstr_error h)
    exact ⟨fun h3 => step_line_fault hp ht hc hx (programInstr_auto h3 x), refused, fun _ => refused, fun _ => refused⟩
  case turn => exact ⟨step_auto_error hp ht, fun _ => step_auto_error hp ht, fun _ => step_auto_error hp ht⟩

/-! A placed word. -/

@[simp] theorem tableOpWord_toNat (w : OpWord) : tableOpWord 16 w.toNat = w := by
  rw [tableOpWord, Nat.mod_eq_of_lt w.isLt, BitVec.ofNat_toNat, BitVec.setWidth_eq]

/-- A placed AUTO word is the agent's turn. -/
theorem step_placeWord_auto (s : State) {w : OpWord} (h : opClassBits w = 3) :
    step (s.placeWord w) = stepAs (.auto w) s := by
  rw [State.placeWord, if_pos h]
  rfl

/-- Any other placed word is the host's next line. -/
theorem step_placeWord_host (s : State) {w : OpWord} (h : opClassBits w ≠ 3) :
    step (s.placeWord w) = stepAs .host (s.push [.line { word := w }]) := by
  rw [State.placeWord, if_neg h]
  rfl

/-- A line with no program values spells what its word and arguments do. -/
theorem lineInstr_literal (vals : List (Nat × Value)) {w : OpWord} {i : Instr} (h : decode w {} = .ok i)
    (hi : i.opClass ≠ .auto) : lineInstr vals { word := w } = .next i := by
  have hx : resolveArgs vals { word := w } = .inl {} := rfl
  rw [lineInstr_resolved hx, programInstr, h]
  exact if_neg hi

/-- Settles O5: the word is the turn put first, or the line put first, and the step takes it off again. -/
theorem placedWordRunsNext : Obligations.PlacedWordRunsNext := by
  intro s w i hp hd
  rw [State.withFetchWord, tableOpWord_toNat]
  by_cases auto : i.opClass = .auto
  · rw [if_pos auto, step_placeWord_auto s ((opClass_auto_iff hd).1 auto), stepAs_auto hp hd auto]
  · rw [if_neg auto, step_placeWord_host s (mt (opClass_auto_iff hd).2 auto),
      stepAs_line (rest := s.code) (l := { word := w }) (by simpa using hp) (s.code_push _) (lineInstr_literal _ hd auto),
      State.setCode_push, State.setCode_code]
    exact congrArg (fun t => mapNext State.settle (exec i t)) s.push_nil

end Sys2Proof.Machine
end

section
/-! The descriptor's words, the interrupt output and the countdown (30_encoding.md R161, R162; 10_state.md R47, R70;
42_engine_sequencer.md R270). -/

namespace Sys2Proof.Machine

/-! CONTROL and STATUS, bit by bit (R161, R162). -/

theorem getLsbD_lenMask (i : Nat) : lenMask.getLsbD i = decide (i < 26) := by
  have ones : lenMask = (BitVec.allOnes 26).setWidth 32 := rfl
  rw [ones, BitVec.getLsbD_setWidth, BitVec.getLsbD_allOnes]
  grind

theorem getLsbD_controlWord (len : Word) (f l : Bool) {i : Nat} (hi : i < 32) :
    (controlWord len f l).getLsbD i =
      (len.getLsbD i && decide (i < 26) || l && decide (i = 26) || f && decide (i = 27)) := by
  simp only [controlWord, BitVec.getLsbD_or, BitVec.getLsbD_and, getLsbD_lenMask, getLsbD_bitAt _ hi]

theorem controlWord_length (len : Word) (f l : Bool) :
    (controlWord len f l).extractLsb' 0 26 = len.extractLsb' 0 26 := by
  apply BitVec.eq_of_getLsbD_eq
  intro i hi
  rw [BitVec.getLsbD_extractLsb', BitVec.getLsbD_extractLsb', getLsbD_controlWord _ _ _ (by omega)]
  grind

theorem controlWord_reserved (len : Word) (f l : Bool) : (controlWord len f l).extractLsb' 28 4 = 0 := by
  apply BitVec.eq_of_getLsbD_eq
  intro i hi
  rw [BitVec.getLsbD_extractLsb', getLsbD_controlWord _ _ _ (by omega)]
  grind

/-- The three error flags are at bits 30, 29 and 28 (R162). -/
theorem respBits_eq (r : XResp) :
    respBits r = bitAt (r == .decerr) 30 ||| bitAt (r == .slverr) 29 ||| bitAt (r == .interr) 28 := by
  cases r <;> rfl

/-- STATUS with the frame flags said of either channel: CMPLT, the error flags, SOF and EOF on RX, the length (R162). -/
theorem statusWord_eq (c : Chan) (x : XRes) :
    statusWord c x = bitAt true 31 ||| respBits x.resp
      ||| (bitAt (c == .rx && x.rxSof) 27 ||| bitAt (c == .rx && x.rxEof) 26) ||| x.n.setWidth 32 := by
  cases c with
  | tx => simp [statusWord, bitAt]
  | rx => rfl

theorem getLsbD_statusWord (c : Chan) (x : XRes) {i : Nat} (hi : i < 32) :
    (statusWord c x).getLsbD i =
      (decide (i = 31) || (x.resp == .decerr && decide (i = 30) || x.resp == .slverr && decide (i = 29)
        || x.resp == .interr && decide (i = 28)) || (c == .rx && x.rxSof && decide (i = 27)
        || c == .rx && x.rxEof && decide (i = 26)) || x.n.getLsbD i) := by
  simp only [statusWord_eq, respBits_eq, BitVec.getLsbD_or, getLsbD_bitAt _ hi, BitVec.getLsbD_setWidth, hi,
    decide_true, Bool.true_and]

theorem statusWord_length (c : Chan) (x : XRes) : (statusWord c x).extractLsb' 0 26 = x.n := by
  apply BitVec.eq_of_getLsbD_eq
  intro i hi
  rw [BitVec.getLsbD_extractLsb', getLsbD_statusWord _ _ (by omega)]
  grind

/-! The interrupt output and the countdown (R47, R270). -/

theorem irqOut_iff (e : Eng) : irqOut e = true ↔ (e.sr.iocIrq = true ∧ e.cr.iocIrqEn = true) ∨
    (e.sr.dlyIrq = true ∧ e.cr.dlyIrqEn = true) ∨ (e.sr.errIrq = true ∧ e.cr.errIrqEn = true) := by
  simp only [irqOut, Bool.or_eq_true, Bool.and_eq_true, or_assoc]

theorem completionEvent_last {e : Eng} (h : e.cnt = 1) :
    completionEvent e = { e with sr := { e.sr with iocIrq := true }, cnt := e.cr.irqThreshold, armed := false } := by
  rw [completionEvent, h]
  exact if_pos rfl

theorem completionEvent_counts {e : Eng} (h : e.cnt ≠ 1) :
    completionEvent e = { e with cnt := e.cnt - 1, armed := true } := by
  rw [completionEvent, if_neg (by bv_omega)]

/-! The states of a descriptor (R70). -/

/-- The flags of STATUS are bits 31:26. -/
theorem finishedStatus_iff (sts : Word) : finishedStatus sts = true ↔ sts.extractLsb' 26 6 ≠ 0 := by
  have flags : sts &&& ~~~lenMask = sts.extractLsb' 26 6 ++ 0#26 := by
    apply BitVec.eq_of_getLsbD_eq
    intro i hi
    rw [BitVec.getLsbD_and, BitVec.getLsbD_not, getLsbD_lenMask, BitVec.getLsbD_append, BitVec.getLsbD_extractLsb']
    grind
  rw [finishedStatus, flags, bne_iff_ne, not_iff_not]
  exact BitVec.append_left_inj (s₂ := 0#6) 0#26

/-- The three states, each by its own test; a STATUS of 0 has no flag, so that a free descriptor is not finished. -/
theorem descState_cases (ctl sts : Word) :
    ((ctl = 0 ∧ sts = 0) ∧ sts.extractLsb' 26 6 = 0 ∧ descState ctl sts = .free) ∨
    (¬ (ctl = 0 ∧ sts = 0) ∧ sts.extractLsb' 26 6 ≠ 0 ∧ descState ctl sts = .finished) ∨
    (¬ (ctl = 0 ∧ sts = 0) ∧ sts.extractLsb' 26 6 = 0 ∧ descState ctl sts = .pending) := by
  by_cases free : ctl = 0 ∧ sts = 0
  · obtain ⟨rfl, rfl⟩ := free
    exact .inl ⟨⟨rfl, rfl⟩, rfl, rfl⟩
  · rw [descState, if_neg free]
    by_cases flags : finishedStatus sts = true
    · exact .inr (.inl ⟨free, (finishedStatus_iff sts).1 flags, if_pos flags⟩)
    · exact .inr (.inr ⟨free, not_not.1 (mt (finishedStatus_iff sts).2 flags), if_neg flags⟩)

/-- Settles O46 from the bits of each word and the cases of each function. -/
theorem descriptorWordsAndFlags : Obligations.DescriptorWordsAndFlags := by
  refine ⟨fun len f l => ⟨controlWord_length len f l, ?eof, ?sof, controlWord_reserved len f l⟩,
    fun c x => ⟨statusWord_length c x, ?cmplt, ?decerr, ?slverr, ?interr, ?rxSof, ?rxEof⟩, irqOut_iff,
    fun e => ⟨completionEvent_last, completionEvent_counts⟩, fun ctl sts => ?states⟩
  case eof | sof =>
    rw [getLsbD_controlWord len f l (by decide)]
    simp
  case cmplt | decerr | slverr | interr | rxSof | rxEof =>
    rw [getLsbD_statusWord c x (by decide)]
    simp
  case states =>
    obtain ⟨free, flags, h⟩ | ⟨notFree, flags, h⟩ | ⟨notFree, flags, h⟩ := descState_cases ctl sts
    all_goals rw [h]
    · exact ⟨iff_of_true rfl free, iff_of_false nofun (not_not.2 flags), iff_of_false nofun fun p => p.1 free⟩
    · exact ⟨iff_of_false nofun notFree, iff_of_true rfl flags, iff_of_false nofun fun p => flags p.2⟩
    · exact ⟨iff_of_false nofun notFree, iff_of_false nofun (not_not.2 flags), iff_of_true rfl ⟨notFree, flags⟩⟩

end Sys2Proof.Machine
end

section
/-! The driver's procedures past their checks (30_encoding.md R171; 43_ring.md to 47_controller.md). -/

namespace Sys2Proof.Machine

theorem withReady_ready {s : State} (h : s.ctl = .ready) (c : Chan) (f : Chan → Res) :
    withReady (chanNum c) s f = f c := by
  rw [withReady, chanOf_chanNum]
  exact if_pos h

theorem withChannel_ready {s : State} (h : s.ctl = .ready) (c : Chan) (f : Chan → Res) :
    withChannel (chanNum c) s f = f c := by
  rw [withChannel, chanOf_chanNum]
  exact if_pos h

theorem whenConfigured_configured {s : State} {c : Chan} (h : (s.ch.get c).configured = true) (r : Res) :
    whenConfigured c s r = r := if_pos h

theorem execConfigure_accepts {s : State} {c : Chan} {q : CfgReq} (ready : s.ctl = .ready)
    (idle : s.reclaiming c = false) (src : q.srcAdj ≠ .decrement) (dst : q.dstAdj ≠ .decrement)
    (dir : q.direction = (s.ch.get c).dir) :
    execConfigure (chanNum c) q s = .next (s.push [.op (.csEnter (chanNum c)), .cont (.cfgKey c q)]) := by
  rw [execConfigure, withChannel_ready ready, if_neg (by simp [idle]), if_neg (not_or.2 ⟨src, dst⟩),
    if_neg (not_not.2 dir)]

theorem execInit_starts {s : State} (uninit : s.ctl = .uninit) (two : s.cfg.channels = 2) :
    execInit s = .next (({ s with ch := ⟨wired s.cfg .tx s.ch.tx, wired s.cfg .rx s.ch.rx⟩ } : State).push
      [.op (wrInstr .tx .dmacr resetBit), .cont (.initPoll 1)]) := by
  rw [execInit, if_neg (not_not.2 uninit), if_neg (not_not.2 two)]

theorem memSide_eq (c : Chan) (src dst : Addr) : memSide c src dst = if c = .tx then src else dst := by
  cases c <;> rfl

/-- Settles O27: each procedure is its checks and then its expansion, and the checks pass. -/
theorem proceduresExpand : Obligations.ProceduresExpand := by
  refine ⟨fun s c ready => ⟨?relink, ?stop, ?getStatus, ?isr, fun src dst n => ?reload⟩,
    fun s c ready configured => ⟨?reclaim, ?start, fun buf n f l => ?populate⟩,
    fun s c q => execConfigure_accepts, fun s => execInit_starts⟩
  case relink | isr => exact withReady_ready ready c _
  case stop | getStatus => exact withChannel_ready ready c _
  case reload =>
    rw [← memSide_eq]
    exact withChannel_ready ready c _
  case reclaim | populate => exact (withReady_ready ready c _).trans (whenConfigured_configured configured _)
  case start => exact (withChannel_ready ready c _).trans (whenConfigured_configured configured _)

end Sys2Proof.Machine
end

section
/-! The register interface: what a DMACR read returns, the pointer halves, and each register's write
(40_register_interface.md R180 to R188). -/

namespace Sys2Proof.Machine

theorem State.spend_zero (s : State) : s.spend 0 = s := by
  simp [State.spend]

/-! Pointer reads (R180, R44, R45). -/

theorem exec_rdInstr_without_draw {r : Reg} (h : regDraws r = 0) (c : Chan) (s : State) :
    exec (rdInstr c r) s = .next (s.answer (.word (regValue s c r))) := by
  rw [exec_rdInstr, mmioRead, h, State.spend_zero]

/-- Settles O7: a pointer half takes no draw, and its value is the half of the pointer. -/
theorem pointerReadsReturnTheHalf : Obligations.PointerReadsReturnTheHalf := fun s c =>
  ⟨exec_rdInstr_without_draw rfl c s, exec_rdInstr_without_draw rfl c s, exec_rdInstr_without_draw rfl c s,
    exec_rdInstr_without_draw rfl c s⟩

/-! The word a DMACR read returns (R42, R180). -/

/-- The reserved bits (R151). -/
theorem dmacrReserved_drawn : ∀ i ∈ [1, 5, 6, 7, 8, 9, 10, 11, 15], dmacrReserved.getLsbD i = true := by decide

/-- The one-bit fields, RESET and the two mode bits among them (R42, R183). -/
theorem dmacrReserved_flags : ∀ i ∈ [0, 2, 3, 4, 12, 13, 14], dmacrReserved.getLsbD i = false := by decide

/-- The threshold and the delay (R42). -/
theorem dmacrReserved_fields {i : Nat} (h : 16 ≤ i) : dmacrReserved.getLsbD i = false :=
  Nat.testBit_lt_two_pow (Nat.lt_of_lt_of_le (by decide : dmacrReserved.toNat < 2 ^ 16)
    (Nat.pow_le_pow_right (by decide) h))

theorem getLsbD_dmacrRead_drawn (cr : Dmacr) (busy : Bool) (d : Nat) {i : Nat} (hm : dmacrReserved.getLsbD i = true) :
    (dmacrRead cr busy d).getLsbD i = d.testBit i := by
  rw [dmacrRead, getLsbD_withDraw _ _ _ (BitVec.lt_of_getLsbD hm), if_pos hm]

theorem getLsbD_dmacrRead_channel (cr : Dmacr) (busy : Bool) (d : Nat) {i : Nat} (hi : i < 32)
    (hm : dmacrReserved.getLsbD i = false) :
    (dmacrRead cr busy d).getLsbD i =
      (cr.rs && decide (i = 0) || busy && decide (i = 2) || cr.iocIrqEn && decide (i = 12)
        || cr.dlyIrqEn && decide (i = 13) || cr.errIrqEn && decide (i = 14)
        || decide (16 ≤ i) && cr.irqThreshold.getLsbD (i - 16)
        || decide (24 ≤ i) && cr.irqDelay.getLsbD (i - 24)) := by
  rw [dmacrRead, getLsbD_withDraw _ _ _ hi, hm, if_neg Bool.false_ne_true]
  simp only [dmacrFields, BitVec.getLsbD_or, getLsbD_bitAt _ hi, getLsbD_shiftedField _ _ hi]

theorem dmacrRead_threshold (cr : Dmacr) (busy : Bool) (d : Nat) :
    (dmacrRead cr busy d).extractLsb' 16 8 = cr.irqThreshold := by
  apply BitVec.eq_of_getLsbD_eq
  intro i hi
  have h32 : 16 + i < 32 := by omega
  rw [BitVec.getLsbD_extractLsb', getLsbD_dmacrRead_channel cr busy d h32 (dmacrReserved_fields (by omega))]
  grind

theorem dmacrRead_delay (cr : Dmacr) (busy : Bool) (d : Nat) :
    (dmacrRead cr busy d).extractLsb' 24 8 = cr.irqDelay := by
  apply BitVec.eq_of_getLsbD_eq
  intro i hi
  have h32 : 24 + i < 32 := by omega
  rw [BitVec.getLsbD_extractLsb', getLsbD_dmacrRead_channel cr busy d h32 (dmacrReserved_fields (by omega))]
  have beyond : cr.irqThreshold.getLsbD (24 + i - 16) = false := BitVec.getLsbD_of_ge _ _ (by omega)
  grind

/-- The two bits of the excluded modes read 0 (R183). -/
theorem dmacrRead_modes (cr : Dmacr) (busy : Bool) (d : Nat) :
    (dmacrRead cr busy d).getLsbD 3 = false ∧ (dmacrRead cr busy d).getLsbD 4 = false := by
  constructor <;>
    rw [getLsbD_dmacrRead_channel cr busy d (by decide) (dmacrReserved_flags _ (by decide))] <;>
    simp

/-- Settles O8: the word read is `dmacrRead`, whose bits `dmacrReserved` divides between the draw and the channel. -/
theorem dmacrReadReturnsTheFields : Obligations.DmacrReadReturnsTheFields := by
  intro s c
  refine ⟨dmacrRead (s.eng.get c).cr s.rstBusy (s.choice 0), exec_rdInstr c .dmacr s, ?_⟩
  generalize (s.eng.get c).cr = cr
  generalize s.rstBusy = busy
  generalize s.choice 0 = d
  obtain ⟨keyhole, cyclic⟩ := dmacrRead_modes cr busy d
  refine ⟨?_, ?_, keyhole, cyclic, ?_, ?_, ?_, dmacrRead_threshold cr busy d, dmacrRead_delay cr busy d,
    fun i hi => getLsbD_dmacrRead_drawn cr busy d (dmacrReserved_drawn i hi)⟩
  all_goals
    rw [getLsbD_dmacrRead_channel cr busy d (by decide) (dmacrReserved_flags _ (by decide))]
    simp

/-! Writes: what each register does with a value, outside a reset (R181). -/

/-- The write of a register where no soft reset is in progress. -/
def writeReg (c : Chan) : Reg → Word → State → Res
  | .dmacr => writeDmacr c
  | .dmasr => writeDmasr c
  | .curdescLsb => writeCurdescLsb c
  | .curdescMsb => writeCurdescMsb c
  | .taildescLsb => writeTaildescLsb c
  | .taildescMsb => writeTaildescMsb c

theorem exec_wrInstr (c : Chan) (r : Reg) (v : Word) (s : State) : exec (wrInstr c r v) s = mmioWrite c r v s := by
  cases c <;> cases r <;> rfl

theorem exec_wrInstr_of_not_busy {s : State} (h : s.rstBusy = false) (c : Chan) (r : Reg) (v : Word) :
    exec (wrInstr c r v) s = writeReg c r v s := by
  rw [exec_wrInstr]
  unfold mmioWrite
  rw [if_neg (by simp [h])]
  cases r <;> rfl

theorem exec_wrInstr_next {c : Chan} {r : Reg} {v : Word} {s t : State} (h : exec (wrInstr c r v) s = .next t) :
    writeReg c r v s = .next t := by
  cases busy : s.rstBusy with
  | true =>
    rw [exec_wrInstr, mmioWrite_busy busy] at h
    cases h
  | false => exact (exec_wrInstr_of_not_busy busy c r v).symm.trans h

theorem writeDmacr_refused {v : Word} (h : v.getLsbD 3 = true ∨ v.getLsbD 4 = true) (c : Chan) (s : State) :
    writeDmacr c v s = .fault (.unmodelledMode c v) :=
  if_pos (Bool.or_eq_true_iff.2 h)

/-- Settles O10: the two refusals come before any effect, and the mode bits of a read are the channel's zeros. -/
theorem refusedRegisterWrites : Obligations.RefusedRegisterWrites := by
  refine ⟨fun s c r v busy => ?busy, fun s c v ready mode => ?mode, fun s t c v hread hret => ?reads⟩
  case busy => exact (exec_wrInstr c r v s).trans (mmioWrite_busy busy c r v)
  case mode => exact (exec_wrInstr_of_not_busy ready c .dmacr v).trans (writeDmacr_refused mode c s)
  case reads =>
    rw [exec_rdInstr] at hread
    cases hread
    rw [State.ret_answer] at hret
    cases hret
    exact dmacrRead_modes _ _ _

/-! The DMACR write (R182, R185). -/

/-- The channel after a DMACR write, field by field. -/
theorem writeCr_eq (e : Eng) (v : Word) (t : BitVec 8) :
    writeCr e v t = { e with
      cr := ⟨v.getLsbD 0, v.getLsbD 12, v.getLsbD 13, v.getLsbD 14, t, v.extractLsb' 24 8⟩
      phase := if v.getLsbD 0 = true ∧ e.phase = .halted then .idle else e.phase
      cnt := if t = e.cr.irqThreshold then e.cnt else t } := by
  simp only [writeCr, writeThreshold, delayField, Bool.and_eq_true, beq_iff_eq]
  by_cases same : t = e.cr.irqThreshold
  · rw [if_pos same, if_pos same, same]
  · rw [if_neg same, if_neg same]

/-- The threshold a DMACR write stores, `d` being the draw made where the value's field is 0 (R185). -/
def storedThreshold (v : Word) (d : Nat) : BitVec 8 :=
  if thresholdField v = 0 then drawnThreshold d else thresholdField v

theorem storedThreshold_ne_zero (v : Word) (d : Nat) : storedThreshold v d ≠ 0 := by
  unfold storedThreshold
  split
  case isTrue => exact drawnThreshold_ne_zero d
  case isFalse legal => exact legal

/-- The draw `th - 1` stands for the threshold `th`. -/
theorem drawnThreshold_pred {th : BitVec 8} (h : th ≠ 0) : drawnThreshold (th.toNat - 1) = th := by
  have pos : th.toNat ≠ 0 := fun h0 => h (BitVec.eq_of_toNat_eq h0)
  have small : th.toNat < 256 := th.isLt
  have same : 1 + (th.toNat - 1) % 255 = th.toNat := by omega
  rw [drawnThreshold, same, BitVec.ofNat_toNat, BitVec.setWidth_eq]

/-- A DMACR write that neither asks for an excluded mode nor for a reset (R182). -/
theorem writeDmacr_stores {v : Word} (reset : v.getLsbD 2 = false) (keyhole : v.getLsbD 3 = false)
    (cyclic : v.getLsbD 4 = false) (c : Chan) (s : State) :
    writeDmacr c v s = .next (((s.setEng c (writeCr (s.eng.get c) v (storedThreshold v (s.choice 0)))).spend
      (if thresholdField v = 0 then 1 else 0)).answer .unit) := by
  rw [writeDmacr_next]
  refine ⟨keyhole, cyclic, .inr ?_⟩
  unfold storedThreshold
  by_cases zero : thresholdField v = 0
  · simp only [if_pos zero]
    exact .inl ⟨reset, zero, trivial⟩
  · simp only [if_neg zero, State.spend_zero]
    exact .inr ⟨reset, zero, trivial⟩

/-- Settles O12: the write stores `writeCr` of the threshold written or drawn, and the draw `th - 1` gives `th`. -/
theorem dmacrWriteStoresTheFields : Obligations.DmacrWriteStoresTheFields := by
  refine ⟨fun s c v ready reset keyhole cyclic => ?stores, fun s t c v th zero reset legal hw => ?reachable⟩
  case stores =>
    refine ⟨storedThreshold v (s.choice 0), storedThreshold_ne_zero v _, fun h => if_neg h, ?_⟩
    rw [← writeCr_eq]
    exact (exec_wrInstr_of_not_busy ready c .dmacr v).trans (writeDmacr_stores reset keyhole cyclic c s)
  case reachable =>
    obtain ⟨-, -, ⟨reset', -⟩ | ⟨-, -, rfl⟩ | ⟨-, nonzero, -⟩⟩ := writeDmacr_next.1 (exec_wrInstr_next hw)
    · exact absurd (reset.symm.trans reset') Bool.false_ne_true
    · rw [State.answer_eng, State.spend_eng, State.setEng_eng, Pair.get_set_self, writeCr_eq]
      exact drawnThreshold_pred legal
    · exact absurd zero nonzero

/-! The DMASR write (R188). -/

theorem and_not_eq_ite (a b : Bool) : (a && !b) = if b then false else a := by
  cases b
  · exact Bool.and_true a
  · exact Bool.and_false a

/-- Settles O13: writing a 1 clears a pending bit, writing a 0 keeps it. -/
theorem dmasrWriteAcknowledges : Obligations.DmasrWriteAcknowledges := by
  intro s c v ready
  simp only [← and_not_eq_ite]
  exact exec_wrInstr_of_not_busy ready c .dmasr v

/-! The pointer writes (R186, R187). -/

theorem alignedLow_iff (v : Word) : alignedLow v = true ↔ v.extractLsb' 0 6 = 0 := beq_iff_eq

theorem alignedLow_misaligned {v : Word} (h : v.extractLsb' 0 6 ≠ 0) : alignedLow v = false :=
  beq_eq_false_iff_ne.2 h

theorem writeCurdescLsb_running {c : Chan} {s : State} (h : (s.eng.get c).phase ≠ .halted) (v : Word) :
    writeCurdescLsb c v s = .fault (.curdescWhileRunning c) := if_pos h

theorem writeCurdescMsb_running {c : Chan} {s : State} (h : (s.eng.get c).phase ≠ .halted) (v : Word) :
    writeCurdescMsb c v s = .fault (.curdescWhileRunning c) := if_pos h

theorem writeCurdescLsb_misaligned {c : Chan} {s : State} (halted : (s.eng.get c).phase = .halted) {v : Word}
    (h : v.extractLsb' 0 6 ≠ 0) :
    writeCurdescLsb c v s = .fault (.misalignedDescriptorPointer c (v.setWidth 64)) := by
  rw [writeCurdescLsb, if_neg (not_not.2 halted), alignedLow_misaligned h]
  rfl

theorem writeTaildescLsb_misaligned {v : Word} (h : v.extractLsb' 0 6 ≠ 0) (c : Chan) (s : State) :
    writeTaildescLsb c v s = .fault (.misalignedDescriptorPointer c (v.setWidth 64)) := by
  rw [writeTaildescLsb, alignedLow_misaligned h]
  rfl

/-- Settles O14: the checks in their order, then `writeCurdescLsb_next` and `writeCurdescMsb_next`. -/
theorem curdescWriteSetsTheFetchPointer : Obligations.CurdescWriteSetsTheFetchPointer := by
  intro s c v ready
  simp only [exec_wrInstr_of_not_busy ready]
  refine ⟨fun running => ⟨writeCurdescLsb_running running v, writeCurdescMsb_running running v⟩,
    fun halted misaligned => writeCurdescLsb_misaligned halted misaligned, fun halted aligned => ?low,
    fun halted => ?high⟩
  case low => exact writeCurdescLsb_next.2 ⟨halted, (alignedLow_iff v).2 aligned, rfl⟩
  case high => exact writeCurdescMsb_next.2 ⟨halted, rfl⟩

/-- In phase IDLE the write starts a walk, in any other it does not (R252). -/
theorem tailWritten_eq (e : Eng) (v : Word) :
    tailWritten e v = { e with
      taildesc := e.taildesc.extractLsb' 32 32 ++ v
      phase := if e.phase = .idle then .fetch else e.phase } := by
  simp only [tailWritten, beq_iff_eq]
  rfl

/-- Settles O15: the walk's trigger is `tailWritten_eq`, and it does not look at the value. -/
theorem taildescWriteTriggersTheWalk : Obligations.TaildescWriteTriggersTheWalk := by
  intro s c v ready
  simp only [exec_wrInstr_of_not_busy ready, ← tailWritten_eq]
  exact ⟨fun misaligned => writeTaildescLsb_misaligned misaligned c s,
    fun aligned => writeTaildescLsb_next.2 ⟨(alignedLow_iff v).2 aligned, rfl⟩, rfl⟩

end Sys2Proof.Machine
end

section
/-! Loads, the fence and cache maintenance (20_memory.md R108, R109, R124, R125; 41_host_primitives.md R220, R222 to
R224). -/

namespace Sys2Proof.Machine

/-! The value a load returns (R108). -/

/-- The youngest entry for a word is the one forwarded. -/
theorem sbLookup_youngest {post : List SbEntry} {a : Addr} (youngest : ∀ e ∈ post, e.addr ≠ a) (pre : List SbEntry)
    (w : Word) : sbLookup (pre ++ ⟨a, w⟩ :: post) a = some w := by
  have single : sbLookup (⟨a, w⟩ :: post) a = some w := by simp [sbLookup, sbLookup_eq_none.2 youngest]
  rw [sbLookup_append, single, Option.some_or]

/-- The bytes of a word put together from its bytes (20_memory.md R102). -/
theorem extractLsb'_wordOfBytes (b0 b1 b2 b3 : Byte) :
    (wordOfBytes b0 b1 b2 b3).extractLsb' 0 8 = b0 ∧ (wordOfBytes b0 b1 b2 b3).extractLsb' 8 8 = b1 ∧
    (wordOfBytes b0 b1 b2 b3).extractLsb' 16 8 = b2 ∧ (wordOfBytes b0 b1 b2 b3).extractLsb' 24 8 = b3 := by
  unfold wordOfBytes
  refine ⟨?_, ?_, ?_, ?_⟩ <;> ext i hi <;>
    simp only [BitVec.getElem_extractLsb', BitVec.getLsbD_append] <;> grind

theorem State.hostWord_byte (s : State) (a : Addr) {k : Nat} (hk : k < 4) :
    (s.hostWord a).extractLsb' (8 * k) 8 = s.hostByte ((a.toNat + k) % 2 ^ 64) := by
  obtain ⟨h0, h1, h2, h3⟩ := extractLsb'_wordOfBytes (s.hostByte a.toNat) (s.hostByte ((a.toNat + 1) % 2 ^ 64))
    (s.hostByte ((a.toNat + 2) % 2 ^ 64)) (s.hostByte ((a.toNat + 3) % 2 ^ 64))
  match k, hk with
  | 0, _ => rw [Nat.add_zero, Nat.mod_eq_of_lt a.isLt]; exact h0
  | 1, _ => exact h1
  | 2, _ => exact h2
  | 3, _ => exact h3

theorem State.loadWord_forwarded {s : State} {pre post : List SbEntry} {a : Addr} {w : Word}
    (hs : s.sb = pre ++ ⟨a, w⟩ :: post) (youngest : ∀ e ∈ post, e.addr ≠ a) : s.loadWord a = w := by
  rw [State.loadWord, hs, sbLookup_youngest youngest, Option.getD_some]

theorem State.loadWord_below {s : State} {a : Addr} (h : ∀ e ∈ s.sb, e.addr ≠ a) : s.loadWord a = s.hostWord a := by
  rw [State.loadWord, sbLookup_eq_none.2 h, Option.getD_none]

theorem cacheable_of_coherent {p : Params} (hm : p.cacheMode = .coherent) (x : Nat) : cacheable p x = false := by
  simp [cacheable, hm]

theorem State.hostWord_coherent {s : State} (hm : s.cfg.cacheMode = .coherent) (a : Addr) :
    s.hostWord a = s.mem.readWord a := by
  simp only [State.hostWord, State.hostByte_uncacheable (cacheable_of_coherent hm _)]
  rfl

/-! The lines a load may allocate (R108 case 3). -/

/-- The line of an address may join the cache: the address is cacheable and no cached line has its base. -/
def State.Fillable (s : State) (x : Nat) : Prop :=
  cacheable s.cfg x = true ∧ ∀ m ∈ s.cache, m.base ≠ lineBase s.cfg x

theorem fillable_iff {s : State} {x : Nat} : (cacheable s.cfg x && !s.isCached x) = true ↔ s.Fillable x := by
  simp [State.Fillable, State.isCached, cacheFind]

theorem State.fillLine_of_not_fillable {s : State} {x : Nat} (h : ¬ s.Fillable x) : s.fillLine x = s := by
  rw [State.fillLine, if_neg (mt fillable_iff.1 h)]

/-- A fill adds the clean line of its address, where that may join. -/
theorem State.mem_fillLine {s : State} {x : Nat} (l : CacheLine) :
    l ∈ (s.fillLine x).cache ↔ l ∈ s.cache ∨ s.Fillable x ∧ l = cleanLine s.cfg s.mem (lineBase s.cfg x) := by
  by_cases h : s.Fillable x
  · rw [State.fillLine_uncached h.1 h.2]
    simpa [h] using mem_cachePut_new (x := cleanLine s.cfg s.mem (lineBase s.cfg x)) h.2 l
  · rw [State.fillLine_of_not_fillable h]
    simp [h]

@[simp] theorem State.fillLine_mem (s : State) (x : Nat) : (s.fillLine x).mem = s.mem := by
  obtain ⟨ls, h⟩ := s.fillLine_eq x
  rw [h]
  rfl

/-- An address stays fillable over a fill, unless it is its own line that was filled. -/
theorem State.fillable_fillLine {s : State} {x y : Nat} :
    (s.fillLine x).Fillable y ↔ s.Fillable y ∧ (s.Fillable x → lineBase s.cfg x ≠ lineBase s.cfg y) := by
  simp only [State.Fillable, State.mem_fillLine, State.fillLine_cfg]
  constructor
  · rintro ⟨hc, fresh⟩
    exact ⟨⟨hc, fun m hm => fresh m (.inl hm)⟩, fun hx => fresh _ (.inr ⟨hx, rfl⟩)⟩
  · rintro ⟨⟨hc, fresh⟩, apart⟩
    refine ⟨hc, fun m hm => hm.elim (fresh m) ?_⟩
    rintro ⟨hx, rfl⟩
    exact apart hx

/-- Fills in a row add the clean line of each address whose line was not cached before them. -/
theorem State.mem_fillLines {s : State} {xs : List Nat} (l : CacheLine) :
    l ∈ (s.fillLines xs).cache ↔
      l ∈ s.cache ∨ ∃ x ∈ xs, s.Fillable x ∧ l = cleanLine s.cfg s.mem (lineBase s.cfg x) := by
  induction xs generalizing s with
  | nil => simp [State.fillLines]
  | cons x xs ih =>
    rw [State.fillLines, ih]
    simp only [State.fillLine_cfg, State.fillLine_mem, State.fillable_fillLine, State.mem_fillLine, List.mem_cons,
      exists_eq_or_imp]
    constructor
    · rintro ((old | first) | ⟨y, hy, ⟨fy, -⟩, rfl⟩)
      · exact .inl old
      · exact .inr (.inl first)
      · exact .inr (.inr ⟨y, hy, fy, rfl⟩)
    · rintro (old | first | ⟨y, hy, fy, rfl⟩)
      · exact .inl (.inl old)
      · exact .inl (.inr first)
      · by_cases same : s.Fillable x ∧ lineBase s.cfg x = lineBase s.cfg y
        · exact .inl (.inr ⟨same.1, by rw [same.2]⟩)
        · exact .inr ⟨y, hy, ⟨fy, fun fx e => same ⟨fx, e⟩⟩, rfl⟩

/-- The word's addresses whose line a load may allocate. -/
theorem State.mem_uncachedBytes {s : State} {a : Addr} {x : Nat} :
    x ∈ s.uncachedBytes a ↔ (∃ k, k < 4 ∧ x = (a.toNat + k) % 2 ^ 64) ∧ s.Fillable x := by
  rw [State.uncachedBytes, List.mem_filter, fillable_iff]
  simp [eq_comm]

/-- What a load leaves in the cache: the lines it held, or, where no pending store gave the word, those and the lines of
the word's addresses that were not cached. -/
theorem State.afterLoad_cache (s : State) (a : Addr) :
    (s.afterLoad a).cache = s.cache ∨
      (∀ e ∈ s.sb, e.addr ≠ a) ∧ (s.afterLoad a).cache = (s.fillLines (s.uncachedBytes a)).cache := by
  unfold State.afterLoad
  split
  · rename_i h
    rw [Bool.and_eq_true, Option.isNone_iff_eq_none, sbLookup_eq_none] at h
    split
    · exact .inr ⟨h.1, rfl⟩
    · exact .inl rfl
  · exact .inl rfl

/-- A load changes the cache and the draws only, each to what `afterLoad` says. -/
theorem State.afterLoad_eta (s : State) (a : Addr) :
    s.afterLoad a = { s with
      cache := (s.afterLoad a).cache, draws := (s.afterLoad a).draws, drawNo := (s.afterLoad a).drawNo } := by
  obtain ⟨ls, ds, n, h⟩ := s.afterLoad_eq a
  rw [h]

/-- The lines that join the cache, written out for R108: clean, with memory's bytes. -/
theorem State.mem_fillLines_uncachedBytes {s : State} (hm : s.cfg.cacheMode = .noncoherent) (a : Addr) (l : CacheLine) :
    l ∈ (s.fillLines (s.uncachedBytes a)).cache ↔ l ∈ s.cache ∨ ∃ k b, k < 4 ∧
      b = (a.toNat + k) % 2 ^ 64 / s.cfg.line * s.cfg.line ∧ uncachedRing s.cfg ((a.toNat + k) % 2 ^ 64) = false ∧
      (∀ m ∈ s.cache, m.base ≠ b) ∧ l = ⟨b, s.mem.readBytes b s.cfg.line, false⟩ := by
  have fillable (x : Nat) : s.Fillable x ↔ uncachedRing s.cfg x = false ∧ ∀ m ∈ s.cache, m.base ≠ lineBase s.cfg x := by
    rw [State.Fillable, cacheable_of_noncoherent hm, Bool.not_eq_true']
  simp only [State.mem_fillLines, State.mem_uncachedBytes, fillable]
  refine or_congr_right ⟨?_, ?_⟩
  · rintro ⟨x, ⟨⟨k, hk, rfl⟩, -⟩, ⟨uncached, fresh⟩, rfl⟩
    exact ⟨k, _, hk, rfl, uncached, fresh, rfl⟩
  · rintro ⟨k, b, hk, rfl, uncached, fresh, rfl⟩
    exact ⟨_, ⟨⟨k, hk, rfl⟩, uncached, fresh⟩, ⟨uncached, fresh⟩, rfl⟩

theorem aligned4_eq_false {a : Addr} (h : a.toNat % 4 ≠ 0) : aligned4 a = false := by
  rwa [← Bool.not_eq_true, aligned4_iff]

theorem exec_ld32_misaligned {a : Addr} (h : a.toNat % 4 ≠ 0) (s : State) :
    exec (.ld32 a) s = .fault (.misalignedHostAccess a) := by
  simp only [exec, execLd32, aligned4_eq_false h]
  rfl

theorem exec_ld32_refused {s : State} {a : Addr} (ha : a.toNat % 4 = 0) (h : busResp s.cfg a 4 false ≠ .okay) :
    exec (.ld32 a) s = .fault (.hostBusError a) := by
  simp [exec, execLd32, (aligned4_iff a).2 ha, h]

theorem exec_ld32_accepted {s : State} {a : Addr} (ha : a.toNat % 4 = 0) (h : busResp s.cfg a 4 false = .okay) :
    exec (.ld32 a) s = .next ((s.afterLoad a).answer (.word (s.loadWord a))) := by
  simp [exec, execLd32, (aligned4_iff a).2 ha, h]

/-- Settles O16: the value is `loadWord`'s, and the cache after it `afterLoad`'s. -/
theorem loadReturnsTheYoungestStore : Obligations.LoadReturnsTheYoungestStore := by
  refine fun s a => ⟨fun ha => exec_ld32_misaligned ha s, exec_ld32_refused, fun ha accepted => ?_⟩
  refine ⟨s.loadWord a, (s.afterLoad a).cache, (s.afterLoad a).draws, (s.afterLoad a).drawNo, ?_,
    fun pre w post hs youngest => State.loadWord_forwarded hs youngest, fun none_pending k hk => ?below, ?cache,
    fun coherent => ?coherent⟩
  · rw [← State.afterLoad_eta, exec_ld32_accepted ha accepted]
  case below => rw [State.loadWord_below none_pending, State.hostWord_byte s a hk]
  case cache =>
    cases hm : s.cfg.cacheMode with
    | coherent => exact .inl (by rw [State.afterLoad_coherent hm])
    | noncoherent =>
      refine (s.afterLoad_cache a).imp_right ?_
      rintro ⟨none_pending, filled⟩
      exact ⟨rfl, none_pending, fun l => by rw [filled, State.mem_fillLines_uncachedBytes hm]⟩
  case coherent =>
    rw [State.afterLoad_coherent coherent]
    refine ⟨rfl, rfl, rfl, fun none_pending => ?_⟩
    rw [State.loadWord_below none_pending, State.hostWord_coherent coherent]

/-! The fence (R109, R222). -/

theorem exec_fence_empty {s : State} (h : s.sb = []) : exec .fence s = .next (s.answer .unit) := by
  simp [exec, execFence, h]

theorem exec_fence_pending {s : State} (h : s.sb ≠ []) : exec .fence s = .next (s.push [.op .fence]) := by
  simp [exec, execFence, h]

@[simp] theorem State.setCode_setCode (s : State) (is js : List Item) : (s.setCode is).setCode js = s.setCode js := by
  simp [State.setCode]

/-- An item taken off the running context's code and put back leaves the state as it was. -/
theorem State.push_setCode_tail {s : State} {it : Item} {rest : List Item} (h : s.code = it :: rest) :
    (s.setCode rest).push [it] = s := by
  rw [State.push, State.code_setCode, List.singleton_append, State.setCode_setCode, ← h, State.setCode_code]

/-- Settles O18: a fence that waits puts itself back before the context's code. -/
theorem fenceWaitsForTheBuffer : Obligations.FenceWaitsForTheBuffer := by
  refine ⟨fun s empty => exec_fence_empty empty, fun s rest valid hc => ?_⟩
  rw [stepAs_op valid hc (by decide)]
  refine ⟨fun empty => ?_, fun pending => ?_⟩
  · rw [exec_fence_empty (s := s.setCode rest) empty]
    rfl
  · rw [exec_fence_pending (s := s.setCode rest) pending, State.push_setCode_tail hc]
    exact congrArg _ (State.settle_of_code (by simp [hc]))

/-! The lines that meet a range (R124). -/

theorem line_dvd_addresses {p : Params} (h : paramsValid p = true) : p.line ∣ 2 ^ 64 := by
  have pow : isPow2 p.line = true := by
    simp only [paramsValid, Bool.and_eq_true] at h
    tauto
  simp only [isPow2, List.any_eq_true, beq_iff_eq, List.mem_range] at pow
  obtain ⟨k, hk, e⟩ := pow
  rw [← e]
  exact Nat.pow_dvd_pow 2 (by omega)

theorem multiple_add_le {d m n : Nat} (hm : d ∣ m) (hn : d ∣ n) (h : m < n) : m + d ≤ n :=
  Nat.le_of_lt_add_of_dvd (by omega) (Nat.dvd_add_self_right.2 hm) hn

/-- A legal line does not reach past the end of the address space. -/
theorem lineLegal_fits {p : Params} (hp : paramsValid p = true) {l : CacheLine} (h : lineLegal p l = true) :
    l.base + p.line ≤ 2 ^ 64 := by
  obtain ⟨onLine, below, -⟩ := lineLegal_iff.1 h
  exact multiple_add_le (Nat.dvd_of_mod_eq_zero onLine) (line_dvd_addresses hp) below

/-- Two legal lines of different bases have no byte in common. -/
theorem lineLegal_apart {p : Params} {k l : CacheLine} (hk : lineLegal p k = true) (hl : lineLegal p l = true)
    (h : k.base < l.base) : k.base + p.line ≤ l.base := by
  obtain ⟨kOnLine, -, -⟩ := lineLegal_iff.1 hk
  obtain ⟨lOnLine, -, -⟩ := lineLegal_iff.1 hl
  exact multiple_add_le (Nat.dvd_of_mod_eq_zero kOnLine) (Nat.dvd_of_mod_eq_zero lOnLine) h

/-- The comparisons of bounds say that some byte of the line is in the range. -/
theorem lineMeets_iff {p : Params} (hp : paramsValid p = true) {l : CacheLine} (h : lineLegal p l = true) {a : Nat}
    (ha : a < 2 ^ 64) (n : Nat) : lineMeets p l.base a n = true ↔ LineMeets p l a n := by
  have fits := lineLegal_fits hp h
  have pos := line_pos hp
  simp only [lineMeets, Bool.and_eq_true, Bool.or_eq_true, bne_iff_ne, decide_eq_true_eq]
  constructor
  · rintro ⟨some_byte, ⟨before, after⟩ | wraps⟩
    · by_cases inside : a ≤ l.base
      · exact ⟨l.base - a, by omega, 0, pos, by omega⟩
      · exact ⟨0, by omega, a - l.base, by omega, by omega⟩
    · exact ⟨l.base + 2 ^ 64 - a, by omega, 0, pos, by omega⟩
  · rintro ⟨k, hk, j, hj, e⟩
    omega

theorem maintained_iff {p : Params} (hp : paramsValid p = true) {l : CacheLine} (h : lineLegal p l = true) {a : Nat}
    (ha : a < 2 ^ 64) (n : Nat) :
    maintained p a n l = true ↔ LineMeets p l a n ∧ uncachedRing p l.base = false := by
  rw [maintained, Bool.and_eq_true, lineMeets_iff hp h ha, Bool.not_eq_true']

theorem maintained_none (p : Params) (a : Nat) (l : CacheLine) : maintained p a 0 l = false := by
  simp [maintained, lineMeets]

/-! Writing lines back (R124). -/

theorem writeBack_of_none {sel : CacheLine → Bool} (unselected : ∀ l, sel l = false) (m : Memory)
    (ls : List CacheLine) : writeBack sel m ls = m := by
  induction ls with
  | nil => rfl
  | cons l t ih => simpa [writeBack, unselected l] using ih

/-- A byte in no line that is written back stays. -/
theorem read_writeBack_outside {p : Params} (hp : paramsValid p = true) {sel : CacheLine → Bool} {ls : List CacheLine}
    (legal : ∀ l ∈ ls, lineLegal p l = true) {x : Nat}
    (outside : ∀ l ∈ ls, sel l = true → l.dirty = true → x < l.base ∨ l.base + p.line ≤ x) {m : Memory}
    (w : m.wf = true) : (writeBack sel m ls).read x = m.read x := by
  induction ls generalizing m with
  | nil => rfl
  | cons l t ih =>
    have rest {m' : Memory} (w' : m'.wf = true) : (writeBack sel m' t).read x = m'.read x :=
      ih (fun k hk => legal k (by simp [hk])) (fun k hk => outside k (by simp [hk])) w'
    have fits := lineLegal_fits hp (legal l (by simp))
    obtain ⟨-, -, whole⟩ := lineLegal_iff.1 (legal l (by simp))
    rw [writeBack]
    split
    · rename_i written
      rw [Bool.and_eq_true] at written
      rw [rest (Memory.writeBytes_wf w _ _)]
      refine Memory.read_writeBytes_outside w _ _ _ fun i hi => ?_
      have := outside l (by simp) written.1 written.2
      omega
    · exact rest w

/-- The bytes of a line that is written back are in memory afterwards. -/
theorem read_writeBack_inside {p : Params} (hp : paramsValid p = true) {sel : CacheLine → Bool} {ls : List CacheLine}
    (rise : basesRise ls = true) (legal : ∀ l ∈ ls, lineLegal p l = true) {l : CacheLine} (hl : l ∈ ls)
    (selected : sel l = true) (dirty : l.dirty = true) {j : Nat} (hj : j < p.line) {m : Memory} (w : m.wf = true) :
    (writeBack sel m ls).read (l.base + j) = l.bytes.getD j 0 := by
  induction ls generalizing m with
  | nil => cases hl
  | cons k t ih =>
    obtain ⟨first, rise'⟩ := basesRise_cons.1 rise
    have legal' : ∀ k ∈ t, lineLegal p k = true := fun k hk => legal k (by simp [hk])
    rw [writeBack]
    rcases List.mem_cons.1 hl with rfl | hl
    · have fits := lineLegal_fits hp (legal l (by simp))
      obtain ⟨-, -, whole⟩ := lineLegal_iff.1 (legal l (by simp))
      have inside := Memory.read_writeBytes_inside w l.base j l.bytes (by omega) (by omega)
      rw [Nat.mod_eq_of_lt (by omega)] at inside
      have apart : ∀ k ∈ t, sel k = true → k.dirty = true → l.base + j < k.base ∨ k.base + p.line ≤ l.base + j := by
        intro k hk _ _
        have := lineLegal_apart (legal l (by simp)) (legal' k hk) (first k hk)
        omega
      have kept := read_writeBack_outside hp legal' apart (Memory.writeBytes_wf w l.base l.bytes)
      rw [selected, dirty, Bool.and_self, if_pos rfl, kept, inside, List.getD_eq_getElem]
    · split
      · exact ih rise' legal' hl (Memory.writeBytes_wf w _ _)
      · exact ih rise' legal' hl w

/-! DC_FLUSH and DC_INVAL (R223, R224). -/

theorem exec_dcFlush_of_flush {s t : State} {a : Addr} {n : Nat} (h : s.flush a.toNat n = t) :
    exec (.dcFlush a n) s = .next (t.answer .unit) := by
  rw [← h]
  rfl

theorem exec_dcInval_of_invalidate {s t : State} {a : Addr} {n : Nat} (h : s.invalidate a.toNat n = t) :
    exec (.dcInval a n) s = .next (t.answer .unit) := by
  rw [← h]
  rfl

theorem State.flush_none (s : State) (a : Nat) : s.flush a 0 = s := by
  unfold State.flush
  split
  · rfl
  · simp [writeBack_of_none (maintained_none s.cfg a), maintained_none]

theorem State.invalidate_none (s : State) (a : Nat) : s.invalidate a 0 = s := by
  unfold State.invalidate
  split
  · rfl
  · simp [State.setCache, maintained_none]

theorem State.flush_noncoherent {s : State} (hm : s.cfg.cacheMode = .noncoherent) (a n : Nat) :
    s.flush a n = { s with
      mem := writeBack (maintained s.cfg a n) s.mem s.cache
      cache := s.cache.map fun l => if maintained s.cfg a n l then { l with dirty := false } else l } := by
  simp [State.flush, hm]

theorem State.invalidate_noncoherent {s : State} (hm : s.cfg.cacheMode = .noncoherent) (a n : Nat) :
    s.invalidate a n = s.setCache (s.cache.filter fun l => !maintained s.cfg a n l) := by
  simp [State.invalidate, hm]

/-- Settles O21: the lines are those of `maintained_iff`, and memory after them is `writeBack`'s. -/
theorem flushCleansTheLines : Obligations.FlushCleansTheLines := by
  refine ⟨fun s a n idle => ?idle, fun s a n valid inv hm => ?_⟩
  case idle =>
    rcases idle with coherent | rfl
    · exact exec_dcFlush_of_flush (State.flush_coherent coherent a.toNat n)
    · exact exec_dcFlush_of_flush (s.flush_none a.toNat)
  obtain ⟨-, rise, legal⟩ := cacheLegal_iff.1 inv.cache
  have concerned {l : CacheLine} (hl : l ∈ s.cache) := maintained_iff valid (legal l hl) a.isLt n
  refine ⟨_, _, exec_dcFlush_of_flush (State.flush_noncoherent hm a.toNat n),
    fun l hl meets uncached dirty j hj => ?written, fun x _ outside => ?kept, fun l => ?cache⟩
  case written =>
    exact read_writeBack_inside valid rise legal hl ((concerned hl).2 ⟨meets, uncached⟩) dirty hj inv.memory
  case kept =>
    refine read_writeBack_outside valid legal (fun l hl selected dirty => ?_) inv.memory
    obtain ⟨meets, uncached⟩ := (concerned hl).1 selected
    exact outside l hl meets uncached dirty
  case cache =>
    rw [List.mem_map]
    refine exists_congr fun k => and_congr_right fun hk => ?_
    rw [← and_assoc, ← concerned hk, eq_comm (b := l)]
    split
    · rename_i maintained
      simp only [maintained, true_and, not_true, false_and, or_false]
    · rename_i untouched
      simp only [untouched, Bool.false_eq_true, false_and, not_false_iff, true_and, false_or]

/-- Settles O22: the lines dropped are those of `maintained_iff`. -/
theorem invalidateDropsTheLines : Obligations.InvalidateDropsTheLines := by
  refine ⟨fun s a n idle => ?idle, fun s a n valid inv hm => ?_⟩
  case idle =>
    rcases idle with coherent | rfl
    · exact exec_dcInval_of_invalidate (State.invalidate_coherent coherent a.toNat n)
    · exact exec_dcInval_of_invalidate (s.invalidate_none a.toNat)
  obtain ⟨-, -, legal⟩ := cacheLegal_iff.1 inv.cache
  refine ⟨_, exec_dcInval_of_invalidate (State.invalidate_noncoherent hm a.toNat n),
    List.filter_sublist, fun l => ?_⟩
  rw [List.mem_filter]
  refine and_congr_right fun hl => ?_
  rw [← maintained_iff valid (legal l hl) a.isLt n, Bool.not_eq_true', Bool.not_eq_true]

end Sys2Proof.Machine
end

section
/-! The interrupt lines, critical sections and the observed primitives (41_host_primitives.md R225 to R232). -/

namespace Sys2Proof.Machine

/-! The two lines (R225 to R227). -/

/-- The two lines have different numbers (00_scope.md R10). -/
theorem irq_distinct {p : Params} (h : paramsValid p = true) : p.irq.tx ≠ p.irq.rx := by
  simp only [paramsValid, Bool.and_eq_true, bne_iff_ne] at h
  tauto

theorem lineOwner_irq {p : Params} (h : paramsValid p = true) (c : Chan) : lineOwner p (p.irq.get c) = some c := by
  cases c with
  | tx => simp [lineOwner]
  | rx => simp [lineOwner, (irq_distinct h).symm]

theorem lineOwner_other {p : Params} {l : Nat} (h : ∀ c, l ≠ p.irq.get c) : lineOwner p l = none := by
  have tx := h .tx
  have rx := h .rx
  simp_all [lineOwner]

theorem onLine_irq {s : State} (h : paramsValid s.cfg = true) (c : Chan) (f : Chan → State) :
    onLine (s.cfg.irq.get c) s f = .next (f c) := by
  rw [onLine, lineOwner_irq h]

theorem onLine_other {s : State} {l : Nat} (h : ∀ c, l ≠ s.cfg.irq.get c) (f : Chan → State) :
    onLine l s f = .fault .badConfiguration := by
  rw [onLine, lineOwner_other h]

/-- Settles O23: each line primitive acts through `onLine`. -/
theorem linePrimitives : Obligations.LinePrimitives := fun _ valid =>
  ⟨fun c => ⟨onLine_irq valid c _, onLine_irq valid c _, onLine_irq valid c _⟩,
    fun _ other => ⟨onLine_other other _, onLine_other other _, onLine_other other _⟩⟩

/-! Critical sections (R228, R229). -/

theorem exec_csEnter_global {s : State} (h : s.cfg.csMode = .global) (c : Nat) :
    exec (.csEnter c) s = .next ({ s with gie := false }.answer (.key (.global s.gie))) := by
  simp only [exec, execCsEnter, h]

theorem exec_csEnter_bothLines {s : State} (h : s.cfg.csMode = .bothLines) (c : Nat) :
    exec (.csEnter c) s =
      .next (((s.setEn .tx false).setEn .rx false).answer (.key (.both s.lines.tx.en s.lines.rx.en))) := by
  simp only [exec, execCsEnter, h]

theorem exec_csEnter_channelLine {s : State} (h : s.cfg.csMode = .channelLine) (valid : paramsValid s.cfg = true)
    {c : Chan} (wired : (s.ch.get c).irq = s.cfg.irq.get c) :
    exec (.csEnter (chanNum c)) s =
      .next ((s.setEn c false).answer (.key (.line (s.cfg.irq.get c) (s.lines.get c).en))) := by
  simp only [exec, execCsEnter, h, chanOf_chanNum, wired]
  exact onLine_irq valid c _

theorem exec_csExit_line {s : State} (valid : paramsValid s.cfg = true) (c : Chan) (e : Bool) :
    exec (.csExit (.line (s.cfg.irq.get c) e)) s = .next ((s.setEn c e).answer .unit) :=
  onLine_irq valid c _

@[simp] theorem State.answer_answer (s : State) (v w : Value) : (s.answer v).answer w = s.answer w := by
  simp [State.answer]

/-- The enable of a line does not depend on the value returned. -/
theorem State.setEn_answer (s : State) (c : Chan) (e : Bool) (v : Value) :
    (s.answer v).setEn c e = (s.setEn c e).answer v := rfl

/-- An enable that is put back is as it was. -/
theorem State.setEn_restored (s : State) (c : Chan) (b : Bool) : (s.setEn c b).setEn c (s.lines.get c).en = s := by
  cases c <;> rfl

theorem State.bothLines_restored (s : State) :
    (((s.setEn .tx false).setEn .rx false).setEn .tx s.lines.tx.en).setEn .rx s.lines.rx.en = s := rfl

/-- Settles O24: each mode's key holds what its mask overwrites. -/
theorem criticalSectionsMaskAndRestore : Obligations.CriticalSectionsMaskAndRestore := by
  refine ⟨fun s c valid wired => ?enter, fun s g t r e c valid => ⟨rfl, rfl, exec_csExit_line valid c e⟩,
    fun s c valid wired => ?restore⟩
  case enter =>
    cases hm : s.cfg.csMode with
    | global => exact exec_csEnter_global hm _
    | bothLines => exact exec_csEnter_bothLines hm _
    | channelLine => exact exec_csEnter_channelLine hm valid wired
  case restore =>
    cases hm : s.cfg.csMode with
    | global =>
      refine ⟨_, _, _, exec_csEnter_global hm _, State.ret_answer _ _, rfl, ?_⟩
      exact State.answer_answer s _ .unit
    | bothLines =>
      refine ⟨_, _, _, exec_csEnter_bothLines hm _, State.ret_answer _ _, rfl, ?_⟩
      rw [State.setEn_answer, State.setEn_answer, State.answer_answer, State.bothLines_restored]
    | channelLine =>
      refine ⟨_, _, _, exec_csEnter_channelLine hm valid wired, State.ret_answer _ _,
        exec_csExit_line (s := (s.setEn c false).answer _) valid c _, ?_⟩
      rw [State.setEn_answer, State.answer_answer, State.setEn_restored]

/-! The scheduling point, the callback and the log (R230 to R232). -/

theorem exec_callback (s : State) (c : Chan) (r : CbResult) :
    exec (.callback (chanNum c) r) s =
      .next (((s.logCallback c r).takeBody.answer .unit).push (s.nextBody.map .op)) := by
  simp only [exec, execCallback, chanOf_chanNum]

theorem State.nextBody_proc {s : State} {i : Instr} (h : i ∈ s.nextBody) : i.opClass = .proc := by
  simpa using (List.mem_filter.1 h).2

theorem State.nextBody_given {s : State} {b : List Instr} {bs : List (List Instr)} (h : s.bodies = b :: bs) :
    s.nextBody = b.filter fun i => decide (i.opClass = .proc) := by
  simp only [State.nextBody, h]

/-- Settles O25: the body of CALLBACK is `nextBody`, and `takeBody` takes it off the run's list. -/
theorem sleepLogAndCallback : Obligations.SleepLogAndCallback := by
  refine ⟨fun s => rfl, fun s m => rfl, fun s c r => ?_⟩
  refine ⟨s.nextBody, s.takeBody.bodies, s.takeBody.bodyNo, exec_callback s c r, fun i hi => State.nextBody_proc hi,
    fun b bs h => ⟨State.nextBody_given h, ?_, ?_⟩⟩
  · rw [State.takeBody_bodies, h]
    rfl
  · rw [State.takeBody_bodyNo, h]
    simp

end Sys2Proof.Machine
end

section
/-! When each step of the engine sequencer is taken, and what the steps of one operation do when they are
(42_engine_sequencer.md R251, R253, R258, R271, R281). -/

namespace Sys2Proof.Machine

/-! Enabling conditions. -/

theorem whenEnabled_taken {b : Bool} (h : b = true) (s : State) (r : Res) : whenEnabled b s r = r := by
  rw [h]
  rfl

theorem whenEnabled_passes {b : Bool} (h : b ≠ true) (s : State) (r : Res) : whenEnabled b s r = .next s := by
  rw [Bool.eq_false_iff.2 h]
  rfl

theorem haltEnabled_iff {s : State} {c : Chan} : s.haltEnabled c = true ↔
    s.rstBusy = false ∧ ((s.eng.get c).phase = .idle ∨ (s.eng.get c).phase = .fetch) ∧
      (s.eng.get c).cr.rs = false := by
  simp [State.haltEnabled, State.engineRuns, and_assoc]

theorem fetchEnabled_iff {s : State} {c : Chan} : s.fetchEnabled c = true ↔
    s.rstBusy = false ∧ (s.eng.get c).phase = .fetch ∧ (s.eng.get c).cr.rs = true := by
  simp [State.fetchEnabled, State.engineRuns, and_assoc]

theorem xferEnabled_iff {s : State} {c : Chan} : s.xferEnabled c = true ↔
    s.rstBusy = false ∧ (s.eng.get c).phase = .xfer := by
  simp [State.xferEnabled, State.engineRuns]

theorem wbEnabled_iff {s : State} {c : Chan} : s.wbEnabled c = true ↔
    s.rstBusy = false ∧ (s.eng.get c).phase = .wb := by
  simp [State.wbEnabled, State.engineRuns]

theorem delayEnabled_iff {s : State} {c : Chan} : s.delayEnabled c = true ↔
    s.rstBusy = false ∧ (s.eng.get c).armed = true ∧ (s.eng.get c).cr.irqDelay ≠ 0 := by
  simp [State.delayEnabled, State.engineRuns, and_assoc]

/-! Every step of an engine as an effect under its enabling condition. -/

/-- The enabling condition of an engine's step (R253 to R271). -/
def State.engineEnabled (s : State) : Instr → Bool
  | .eHalt c => s.haltEnabled c
  | .eFetch c => s.fetchEnabled c
  | .eXferTx => s.xferEnabled .tx
  | .eXferRx => s.xferEnabled .rx
  | .eWb c => s.wbEnabled c
  | .eDelay c => s.delayEnabled c
  | _ => false

/-- What an engine's step does when it is taken. -/
def engineEffect (i : Instr) (s : State) : Res :=
  match i with
  | .eHalt c => .next (s.setEng c { s.eng.get c with phase := .halted })
  | .eFetch c => .next (fetchStep c s)
  | .eXferTx => .next (xferTxStep s)
  | .eXferRx => .next (xferRxStep s)
  | .eWb c => wbStep c s
  | .eDelay c => .next (s.setEng c (delayFired (s.eng.get c)))
  | _ => .next s

theorem exec_engine {i : Instr} {c : Chan} (hi : engineChan i = some c) (s : State) :
    exec i s = whenEnabled (s.engineEnabled i) s (engineEffect i s) := by
  cases i with
  | eHalt | eFetch | eXferTx | eXferRx | eWb | eDelay => rfl
  | _ => cases hi

theorem exec_engine_taken {i : Instr} {c : Chan} (hi : engineChan i = some c) {s : State}
    (h : s.engineEnabled i = true) : exec i s = engineEffect i s :=
  (exec_engine hi s).trans (whenEnabled_taken h s _)

theorem exec_engine_passes {i : Instr} {c : Chan} (hi : engineChan i = some c) {s : State}
    (h : s.engineEnabled i ≠ true) : exec i s = .next s :=
  (exec_engine hi s).trans (whenEnabled_passes h s _)

/-- No step of an engine is enabled during a soft reset (R251). -/
theorem engineEnabled_running {s : State} {i : Instr} (h : s.engineEnabled i = true) : s.rstBusy = false := by
  cases i with
  | eHalt => exact (haltEnabled_iff.1 h).1
  | eFetch => exact (fetchEnabled_iff.1 h).1
  | eXferTx | eXferRx => exact (xferEnabled_iff.1 h).1
  | eWb => exact (wbEnabled_iff.1 h).1
  | eDelay => exact (delayEnabled_iff.1 h).1
  | _ => cases h

theorem exec_eResetDone_taken {s : State} (h : s.rstBusy = true) :
    exec .eResetDone s = .next { s with rstBusy := false } :=
  whenEnabled_taken h s _

/-! Steps of the environment that find nothing to do. -/

theorem State.evictable_none {s : State} (h : s.cfg.cacheMode = .coherent ∨ s.cache = []) : s.evictable = [] := by
  rcases h with coherent | empty
  · simp only [State.evictable, if_pos coherent]
  · simp only [State.evictable, empty, List.filter_nil, ite_self]

theorem exec_envEvict_none {s : State} (h : s.evictable = []) : exec .envEvict s = .next s := by
  simp only [exec, execEnvEvict, h, List.getElem?_nil]

/-- Settles O47: each step's enabling condition fails, and with it the step's effect. -/
theorem disabledStepsChangeNothing : Obligations.DisabledStepsChangeNothing := by
  refine ⟨fun s i c hi busy => exec_engine_passes hi fun enabled => ?resetting,
    fun s c => ⟨fun h => exec_engine_passes (c := c) rfl fun enabled => ?halt,
      fun h => exec_engine_passes (c := c) rfl fun enabled => ?fetch,
      fun h => exec_engine_passes (c := c) rfl fun enabled => h (wbEnabled_iff.1 enabled).2,
      fun h => exec_engine_passes (c := c) rfl fun enabled => ?delay⟩,
    fun s => ⟨fun h => exec_engine_passes (c := .tx) rfl fun enabled => h (xferEnabled_iff.1 enabled).2,
      fun h => exec_engine_passes (c := .rx) rfl fun enabled => h (xferEnabled_iff.1 enabled).2,
      fun ready => whenEnabled_passes (by simp [ready]) s _, fun empty => whenEnabled_passes (by simp [empty]) s _,
      fun coherent => whenEnabled_passes (by simp [coherent]) s _,
      fun coherent => exec_envEvict_none (State.evictable_none (.inl coherent)),
      fun empty => exec_envEvict_none (State.evictable_none (.inr empty))⟩⟩
  case resetting => exact Bool.false_ne_true ((engineEnabled_running enabled).symm.trans busy)
  case halt =>
    obtain ⟨-, phase, stopped⟩ := haltEnabled_iff.1 enabled
    exact h.elim (fun other => other phase) fun running => Bool.false_ne_true (stopped.symm.trans running)
  case fetch =>
    obtain ⟨-, phase, running⟩ := fetchEnabled_iff.1 enabled
    exact h.elim (fun other => other phase) fun stopped => Bool.false_ne_true (stopped.symm.trans running)
  case delay =>
    obtain ⟨-, armed, delay⟩ := delayEnabled_iff.1 enabled
    exact h.elim (fun idle => Bool.false_ne_true (idle.symm.trans armed)) delay

/-- Settles O41: the three steps where they are enabled. -/
theorem haltDelayAndResetDone : Obligations.HaltDelayAndResetDone :=
  ⟨fun _ _ ready phase stopped => exec_engine_taken rfl (haltEnabled_iff.2 ⟨ready, phase, stopped⟩),
    fun _ _ ready armed delay => exec_engine_taken rfl (delayEnabled_iff.2 ⟨ready, armed, delay⟩),
    fun _ busy => exec_eResetDone_taken busy⟩

/-! The outbound transfer (R258). -/

theorem xferTxStep_emits {s : State}
    (h : busResp s.cfg s.eng.tx.snap.bufAddr (lenField s.eng.tx.snap.control).toNat false = .okay) :
    xferTxStep s = { s with
      eng := s.eng.set .tx { s.eng.tx with
        xres := { s.eng.tx.xres with n := lenField s.eng.tx.snap.control, resp := .okay }, phase := .wb }
      outs := s.outs ++ [⟨s.mem.readBytes s.eng.tx.snap.bufAddr.toNat (lenField s.eng.tx.snap.control).toNat,
        sofBit s.eng.tx.snap.control, eofBit s.eng.tx.snap.control, s.eng.tx.snap.app⟩] } := by
  simp only [xferTxStep, h]
  rfl

theorem xferTxStep_refused {s : State} {r : BusResp}
    (h : busResp s.cfg s.eng.tx.snap.bufAddr (lenField s.eng.tx.snap.control).toNat false = r) (hr : r ≠ .okay) :
    xferTxStep s = s.setEng .tx { s.eng.tx with
      xres := { s.eng.tx.xres with n := 0, resp := .ofBus r }, phase := .wb } := by
  cases r with
  | okay => exact absurd rfl hr
  | slverr | decerr =>
    simp only [xferTxStep, h]

/-- Settles O43: the leg, or the bus's answer. -/
theorem outboundTransfer : Obligations.OutboundTransfer := by
  rintro s e buf len ready rfl phase rfl rfl
  have taken : exec .eXferTx s = .next (xferTxStep s) :=
    exec_engine_taken rfl (xferEnabled_iff.2 ⟨ready, phase⟩)
  rw [taken]
  exact ⟨fun okay => congrArg _ (xferTxStep_emits okay), fun slverr => congrArg _ (xferTxStep_refused slverr nofun),
    fun decerr => congrArg _ (xferTxStep_refused decerr nofun)⟩

end Sys2Proof.Machine
end

section
/-! The soft reset and its end (40_register_interface.md R184; 42_engine_sequencer.md R280, R281; 70_reset_and_hazards.md
R480). -/

namespace Sys2Proof.Machine

/-- After a soft reset each channel has the values of 10_state.md R80, whatever its snapshot and transfer result. -/
theorem State.softReset_get (s : State) (d : Chan) : ∃ snap xres, s.softReset.eng.get d = Eng.softReset snap xres := by
  cases d
  · exact ⟨_, _, rfl⟩
  · exact ⟨_, _, rfl⟩

theorem exec_dmacr_reset {s : State} {v : Word} (ready : s.rstBusy = false) (keyhole : v.getLsbD 3 = false)
    (cyclic : v.getLsbD 4 = false) (reset : v.getLsbD 2 = true) (c : Chan) :
    exec (wrInstr c .dmacr v) s = .next (s.softReset.answer .unit) :=
  (exec_wrInstr_of_not_busy ready c .dmacr v).trans (writeDmacr_next.2 ⟨keyhole, cyclic, .inl ⟨reset, rfl⟩⟩)

/-- The soft reset leaves the host, the driver and their logs alone (R280). -/
theorem State.softReset_sameHost (s : State) (v : Value) : SameHost (s.answer v) (s.softReset.answer v) := by
  constructor <;> rfl

/-- Settles O11: the write is `State.softReset`, through either channel's DMACR. -/
theorem softResetResetsBothChannels : Obligations.SoftResetResetsBothChannels := by
  intro s c v ready keyhole cyclic reset
  refine ⟨_, exec_dmacr_reset ready keyhole cyclic reset c, rfl, fun d => ?_, s.softReset_sameHost .unit,
    rfl, rfl, rfl, rfl⟩
  obtain ⟨snap, xres, h⟩ := s.softReset_get d
  rw [State.answer_eng, h]
  exact ⟨rfl, rfl, rfl, rfl, rfl, rfl, rfl, rfl, rfl⟩

/-! The end of a reset on a fair run. -/

/-- A step that goes on took the turn that was next. -/
theorem takeTurn_of_step {s t : State} (h : step s = .next t) : takeTurn s.turn s.nextTurn = .next t := by
  unfold step checkedTurn at h
  split at h
  · exact h
  · cases h

theorem takeTurn_resetDone (s : State) : takeTurn (.auto 0xC600) s = exec .eResetDone s := rfl

/-- The turn of E_RESET_DONE ends a reset in progress (R281). -/
theorem step_resetDone {s t : State} (h : step s = .next t) (busy : s.rstBusy = true) (turn : s.turn = .auto 0xC600) :
    t.rstBusy = false := by
  have taken := takeTurn_of_step h
  rw [turn, takeTurn_resetDone, exec_eResetDone_taken (s := s.nextTurn) busy] at taken
  cases taken
  rfl

/-- Settles O58: were the reset never to end, E_RESET_DONE would stay enabled, and fairness would give it its turn, which
ends the reset. -/
theorem fairRunsEndTheReset : Obligations.FairRunsEndTheReset := by
  intro r run fair n _
  by_contra never
  have busy : ∀ m, n ≤ m → (r m).rstBusy = true := fun m hm =>
    Bool.eq_true_of_not_eq_false fun ended => never ⟨m, hm, ended⟩
  have listed : ((.auto 0xC600, fun s => s.rstBusy) : Turn × (State → Bool)) ∈ fairTurns := by simp [fairTurns]
  obtain ⟨m, hm, turn⟩ := fair _ listed n busy
  exact never ⟨m + 1, Nat.le_succ_of_le hm, step_resetDone (run m) (busy m hm) turn⟩

end Sys2Proof.Machine
end

section
/-! The fetch of a descriptor and the inbound transfer (42_engine_sequencer.md R255 to R257, R259; 60_exceptions.md
R422). -/

namespace Sys2Proof.Machine

/-! E_FETCH, by the checks in their order (R422 c). -/

theorem fetchError_eq (r : XResp) (e : Eng) : fetchError r e =
    { e with sr := { setSgErr r e.sr with errIrq := true }, cr := { e.cr with rs := false }, phase := .halted } := rfl

theorem fetchStep_refused {s : State} {c : Chan} {r : BusResp}
    (bus : busResp s.cfg (s.eng.get c).fp 52 false = r) (refused : r ≠ .okay) :
    fetchStep c s =
      s.setEng c (fetchError (.ofBus r) { s.eng.get c with curdesc := (s.eng.get c).fp }) := by
  cases r with
  | okay => exact absurd rfl refused
  | slverr | decerr => simp only [fetchStep, bus, XResp.ofBus]

section
variable {s : State} {c : Chan} (bus : busResp s.cfg (s.eng.get c).fp 52 false = .okay)
include bus

theorem fetchStep_completed (completed : cmpltBit (fetchSnap s.mem (s.eng.get c).fp).status = true) :
    fetchStep c s = s.setEng c (fetchError .interr { s.eng.get c with
      curdesc := (s.eng.get c).fp, snap := fetchSnap s.mem (s.eng.get c).fp }) := by
  simp only [fetchStep, bus, completed, if_true]

theorem fetchStep_empty (fresh : cmpltBit (fetchSnap s.mem (s.eng.get c).fp).status = false)
    (empty : lenField (fetchSnap s.mem (s.eng.get c).fp).control = 0) :
    fetchStep c s = (s.setEng c { s.eng.get c with
      curdesc := (s.eng.get c).fp, snap := fetchSnap s.mem (s.eng.get c).fp
      xres := ⟨0, .interr, drawnBool (s.choice 0), drawnBool (s.choice 1), (fetchSnap s.mem (s.eng.get c).fp).app⟩
      phase := .wb }).spend 2 := by
  simp only [fetchStep, bus, fresh, empty, Bool.false_eq_true, if_false, if_true]

theorem fetchStep_accepts (fresh : cmpltBit (fetchSnap s.mem (s.eng.get c).fp).status = false)
    (filled : lenField (fetchSnap s.mem (s.eng.get c).fp).control ≠ 0) :
    fetchStep c s = s.setEng c { s.eng.get c with
      curdesc := (s.eng.get c).fp, snap := fetchSnap s.mem (s.eng.get c).fp, phase := .xfer } := by
  simp only [fetchStep, bus, fresh, filled, Bool.false_eq_true, if_false]

end

/-- Settles O42: the cases of `fetchStep`, and the words of `fetchSnap` by its definition. -/
theorem fetchAcceptsOrReports : Obligations.FetchAcceptsOrReports := by
  refine ⟨?_, fun m a => ⟨rfl, rfl, rfl, rfl, rfl, rfl, rfl, rfl⟩⟩
  rintro s c e sn ready rfl phase running rfl
  have taken : exec (.eFetch c) s = .next (fetchStep c s) :=
    exec_engine_taken rfl (fetchEnabled_iff.2 ⟨ready, phase, running⟩)
  rw [taken]
  exact ⟨fun decerr => congrArg _ (fetchStep_refused decerr nofun),
    fun slverr => congrArg _ (fetchStep_refused slverr nofun),
    fun okay => ⟨fun completed => congrArg _ (fetchStep_completed okay completed),
      fun fresh empty => ⟨_, _, congrArg _ (fetchStep_empty okay fresh empty)⟩,
      fun fresh filled => congrArg _ (fetchStep_accepts okay fresh filled)⟩⟩

/-! Every value of a draw's set is drawn by some number (00_scope.md R12). -/

/-- The number that stands for a sequence of bytes. -/
def bytesDraw : List Byte → Nat
  | [] => 0
  | b :: bs => b.toNat + 256 * bytesDraw bs

theorem drawnBytes_length (n v : Nat) : (drawnBytes n v).length = n := by
  induction n generalizing v with
  | zero => rfl
  | succ n ih => simp [drawnBytes, ih]

theorem drawnBytes_bytesDraw (bs : List Byte) : drawnBytes bs.length (bytesDraw bs) = bs := by
  induction bs with
  | nil => rfl
  | cons b bs ih =>
    have small : b.toNat < 256 := b.isLt
    have head : BitVec.ofNat 8 (b.toNat + 256 * bytesDraw bs) = b := by
      apply BitVec.eq_of_toNat_eq
      rw [BitVec.toNat_ofNat]
      omega
    have tail : (b.toNat + 256 * bytesDraw bs) / 256 = bytesDraw bs := by omega
    rw [List.length_cons, drawnBytes, bytesDraw, head, tail, ih]

/-- The five words of a number, put side by side. -/
theorem extractLsb'_appWords (w0 w1 w2 w3 w4 : Word) :
    (w4 ++ w3 ++ w2 ++ w1 ++ w0).extractLsb' 0 32 = w0 ∧ (w4 ++ w3 ++ w2 ++ w1 ++ w0).extractLsb' 32 32 = w1 ∧
    (w4 ++ w3 ++ w2 ++ w1 ++ w0).extractLsb' 64 32 = w2 ∧ (w4 ++ w3 ++ w2 ++ w1 ++ w0).extractLsb' 96 32 = w3 ∧
    (w4 ++ w3 ++ w2 ++ w1 ++ w0).extractLsb' 128 32 = w4 := by
  refine ⟨?_, ?_, ?_, ?_, ?_⟩
  all_goals
    apply BitVec.eq_of_getLsbD_eq
    intro i hi
    rw [BitVec.getLsbD_extractLsb']
    simp only [BitVec.getLsbD_append]
    grind

/-- The number that stands for five words. -/
def appDraw (x : App) : Nat := (x.app4 ++ x.app3 ++ x.app2 ++ x.app1 ++ x.app0).toNat

theorem drawnApp_appDraw (x : App) : drawnApp (appDraw x) = x := by
  obtain ⟨h0, h1, h2, h3, h4⟩ := extractLsb'_appWords x.app0 x.app1 x.app2 x.app3 x.app4
  simp only [drawnApp, appDraw, BitVec.ofNat_toNat, BitVec.setWidth_eq, h0, h1, h2, h3, h4]

theorem drawnBool_toNat (b : Bool) : drawnBool b.toNat = b := by cases b <;> rfl

/-- The machine with draws given for its next steps. -/
def State.giveDraws (s : State) (ds : List Nat) : State := { s with draws := ds ++ s.draws }

theorem State.choice_giveDraws (s : State) {ds : List Nat} {k : Nat} (h : k < ds.length) :
    (s.giveDraws ds).choice k = ds[k] := by
  simp only [State.giveDraws, State.choice, List.drop_append_of_le_length h.le, List.drop_eq_getElem_cons h,
    List.cons_append]

/-- The draws given are the ones made. -/
theorem State.spend_giveDraws (s : State) (ds : List Nat) : (s.giveDraws ds).spend ds.length = s := by
  simp [State.spend, State.giveDraws]

/-! E_XFER of RX (R259). -/

/-- The next draws of the machine stand for an inbound leg: its count of bytes, its frame flags, a short leg ending the
frame, its data and its application words. -/
structure State.DrawsLeg (s : State) (n : Nat) (eof sof : Bool) (data : List Byte) (app : App) : Prop where
  count : s.choice 0 % ((lenField s.eng.rx.snap.control).toNat + 1) = n
  eof : (decide (n < (lenField s.eng.rx.snap.control).toNat) || drawnBool (s.choice 1)) = eof
  sof : drawnBool (s.choice 2) = sof
  data : drawnBytes n (s.choice 3) = data
  app : drawnApp (s.choice 4) = app

section
variable {s : State} {n : Nat} {eof sof : Bool} {data : List Byte} {app : App} (leg : s.DrawsLeg n eof sof data app)
include leg

theorem xferRxStep_stores (accepted : n = 0 ∨ busResp s.cfg s.eng.rx.snap.bufAddr n true = .okay) :
    xferRxStep s = ((s.spend 5).setMem (s.mem.writeBytes s.eng.rx.snap.bufAddr.toNat data)).setEng .rx
      { s.eng.rx with xres := ⟨BitVec.ofNat 26 n, .okay, eof, sof, app⟩, phase := .wb } := by
  have answer : (if n = 0 then .okay else busResp s.cfg s.eng.rx.snap.bufAddr n true) = BusResp.okay :=
    ite_eq_left_iff.2 accepted.resolve_left
  simp only [xferRxStep, leg.count, leg.eof, leg.sof, leg.data, leg.app, answer]

theorem xferRxStep_refused (nonzero : n ≠ 0) {r : BusResp}
    (bus : busResp s.cfg s.eng.rx.snap.bufAddr n true = r) (refused : r ≠ .okay) :
    xferRxStep s = (s.spend 5).setEng .rx
      { s.eng.rx with xres := ⟨0, .ofBus r, eof, sof, app⟩, phase := .wb } := by
  have answer : (if n = 0 then .okay else busResp s.cfg s.eng.rx.snap.bufAddr n true) = r := (if_neg nonzero).trans bus
  cases r with
  | okay => exact absurd rfl refused
  | slverr | decerr => simp only [xferRxStep, leg.count, leg.eof, leg.sof, leg.app, answer]

end

/-- The draws that stand for a leg. -/
def legDraws (n : Nat) (eof sof : Bool) (data : List Byte) (app : App) : List Nat :=
  [n, eof.toNat, sof.toNat, bytesDraw data, appDraw app]

/-- Every leg the stream can deliver is drawn. -/
theorem drawsLeg_given {s : State} {n : Nat} {eof : Bool} {data : List Byte}
    (fits : n ≤ (lenField s.eng.rx.snap.control).toNat)
    (short : n < (lenField s.eng.rx.snap.control).toNat → eof = true) (length : data.length = n) (sof : Bool)
    (app : App) : (s.giveDraws (legDraws n eof sof data app)).DrawsLeg n eof sof data app where
  count := Nat.mod_eq_of_lt (Nat.lt_succ_of_le fits)
  eof := by
    refine (congrArg _ (drawnBool_toNat eof)).trans ?_
    by_cases h : n < (lenField s.eng.rx.snap.control).toNat
    · rw [short h, Bool.or_true]
    · exact (congrArg (· || eof) (decide_eq_false h)).trans (Bool.false_or eof)
  sof := drawnBool_toNat sof
  data := length ▸ drawnBytes_bytesDraw data
  app := drawnApp_appDraw app

theorem exec_eXferRx_taken {s : State} (ready : s.rstBusy = false) (phase : s.eng.rx.phase = .xfer) :
    exec .eXferRx s = .next (xferRxStep s) :=
  exec_engine_taken rfl (xferEnabled_iff.2 ⟨ready, phase⟩)

section
variable {s : State} {n : Nat} {eof : Bool} {data : List Byte} (ready : s.rstBusy = false)
  (phase : s.eng.rx.phase = .xfer) (fits : n ≤ (lenField s.eng.rx.snap.control).toNat)
  (short : n < (lenField s.eng.rx.snap.control).toNat → eof = true) (length : data.length = n)
include ready phase fits short length

/-- A leg the bus accepts is the outcome of its draws. -/
theorem exec_eXferRx_leg (accepted : n = 0 ∨ busResp s.cfg s.eng.rx.snap.bufAddr n true = .okay) (sof : Bool)
    (app : App) : exec .eXferRx (s.giveDraws (legDraws n eof sof data app)) =
      .next ((s.setMem (s.mem.writeBytes s.eng.rx.snap.bufAddr.toNat data)).setEng .rx
        { s.eng.rx with xres := ⟨BitVec.ofNat 26 n, .okay, eof, sof, app⟩, phase := .wb }) := by
  have spent := s.spend_giveDraws (legDraws n eof sof data app)
  have leg := drawsLeg_given fits short length sof app
  rw [exec_eXferRx_taken (s := s.giveDraws _) ready phase, xferRxStep_stores leg accepted]
  exact congrArg (fun u : State => Host.Outcome.next ((u.setMem _).setEng .rx _)) spent

/-- So is a leg the bus refuses. -/
theorem exec_eXferRx_refusedLeg (nonzero : n ≠ 0) {r : BusResp} (bus : busResp s.cfg s.eng.rx.snap.bufAddr n true = r)
    (refused : r ≠ .okay) (sof : Bool) (app : App) :
    exec .eXferRx (s.giveDraws (legDraws n eof sof data app)) =
      .next (s.setEng .rx { s.eng.rx with xres := ⟨0, .ofBus r, eof, sof, app⟩, phase := .wb }) := by
  have spent := s.spend_giveDraws (legDraws n eof sof data app)
  have leg := drawsLeg_given fits short length sof app
  rw [exec_eXferRx_taken (s := s.giveDraws _) ready phase, xferRxStep_refused leg nonzero bus refused]
  exact congrArg (fun u : State => Host.Outcome.next (u.setEng .rx _)) spent

end

/-- Settles O44: the leg the draws stand for is one of the stream's, and each of the stream's has its draws. -/
theorem inboundLegsArePossible : Obligations.InboundLegsArePossible := by
  refine ⟨?drawn, ?stored, ?refused⟩
  case drawn =>
    rintro s e ready rfl phase
    have leg : s.DrawsLeg _ _ _ _ _ := ⟨rfl, rfl, rfl, rfl, rfl⟩
    rw [exec_eXferRx_taken ready phase]
    exact ⟨_, _, _, _, _, Nat.le_of_lt_succ (Nat.mod_lt _ (Nat.succ_pos _)),
      fun short => Bool.or_eq_true_iff.2 (.inl (decide_eq_true short)), drawnBytes_length _ _,
      fun accepted => congrArg _ (xferRxStep_stores leg accepted),
      fun nonzero slverr => congrArg _ (xferRxStep_refused leg nonzero slverr nofun),
      fun nonzero decerr => congrArg _ (xferRxStep_refused leg nonzero decerr nofun)⟩
  case stored =>
    rintro s e n eof sof data app ready rfl phase fits short length accepted
    exact ⟨legDraws n eof sof data app, exec_eXferRx_leg ready phase fits short length accepted sof app⟩
  case refused =>
    rintro s e n eof sof app ready rfl phase nonzero fits short
    have length : (List.replicate n (0 : Byte)).length = n := List.length_replicate
    exact ⟨fun slverr => ⟨_, exec_eXferRx_refusedLeg ready phase fits short length nonzero slverr nofun sof app⟩,
      fun decerr => ⟨_, exec_eXferRx_refusedLeg ready phase fits short length nonzero decerr nofun sof app⟩⟩

end Sys2Proof.Machine
end

section
/-! The writeback (42_engine_sequencer.md R260 to R262; 20_memory.md R105). -/

namespace Sys2Proof.Machine

theorem aligned64_iff (a : Addr) : aligned64 a = true ↔ a.extractLsb' 0 6 = 0 := beq_iff_eq

/-! What the MemWrites of a writeback do, and the bus's answer to them (R261, log entry 36). -/

/-- What the bus answers to the MemWrite of the application words, which RX makes and TX does not. -/
def appAnswer (p : Params) (c : Chan) (a : Addr) : BusResp := if c = .rx then busResp p (a + 0x20) 20 true else .okay

/-- Memory after the application words. -/
def appWritten (c : Chan) (a : Addr) (x : XRes) (m : Memory) : Memory :=
  if c = .rx then m.writeBytes (a + 0x20).toNat (appBytes x.app) else m

theorem wbSpan_eq (c : Chan) : wbSpan c = if c = .rx then 24 else 4 := by cases c <;> rfl

theorem State.memWrites_refused {s : State} {a : Addr} {bs : List Byte}
    (h : busResp s.cfg a bs.length true ≠ .okay) (ws : List (Addr × List Byte)) :
    s.memWrites ((a, bs) :: ws) = (s, busResp s.cfg a bs.length true) := by
  obtain ⟨okay, -⟩ | ⟨-, written⟩ := s.memWrite_eq a bs
  · exact absurd okay h
  · simp only [State.memWrites, written]

theorem State.memWrites_accepted {s : State} {a : Addr} {bs : List Byte}
    (h : busResp s.cfg a bs.length true = .okay) (ws : List (Addr × List Byte)) :
    s.memWrites ((a, bs) :: ws) = (s.setMem (s.mem.writeBytes a.toNat bs)).memWrites ws := by
  obtain ⟨-, written⟩ | ⟨refused, -⟩ := s.memWrite_eq a bs
  · simp only [State.memWrites, written]
  · exact absurd h refused

/-- A single MemWrite. -/
theorem State.memWrites_one (s : State) (a : Addr) (bs : List Byte) : s.memWrites [(a, bs)] =
    (s.setMem (if busResp s.cfg a bs.length true = .okay then s.mem.writeBytes a.toNat bs else s.mem),
      busResp s.cfg a bs.length true) := by
  by_cases h : busResp s.cfg a bs.length true = .okay
  · rw [State.memWrites_accepted h, if_pos h, h]
    rfl
  · rw [State.memWrites_refused h, if_neg h]
    rfl

section
variable {s : State} {c : Chan}

theorem memWrites_wb_statusRefused {a : Addr} (x : XRes) (h : busResp s.cfg (statusAddr a) 4 true ≠ .okay) :
    s.memWrites (wbWrites c a x) = (s, busResp s.cfg (statusAddr a) 4 true) := by
  cases c <;> exact State.memWrites_refused h _

theorem memWrites_wb_statusAccepted {a : Addr} (x : XRes) (h : busResp s.cfg (statusAddr a) 4 true = .okay) :
    s.memWrites (wbWrites c a x) =
      (s.setMem (if appAnswer s.cfg c a = .okay
          then appWritten c a x (s.mem.writeBytes (statusAddr a).toNat (wordBytes (statusWord c x)))
          else s.mem.writeBytes (statusAddr a).toNat (wordBytes (statusWord c x))),
        appAnswer s.cfg c a) := by
  cases c with
  | tx => exact State.memWrites_accepted h []
  | rx =>
    have length : (appBytes x.app).length = 20 := rfl
    have status : s.memWrites (wbWrites .rx a x) = _ := State.memWrites_accepted h [(a + 0x20, appBytes x.app)]
    rw [status, State.memWrites_one, length, appAnswer, appWritten, if_pos rfl, if_pos rfl]
    rfl

end

/-- The bus's answer to a writeback: the first refusal of the whole span, STATUS and the application words, if there is
one. -/
def wbAnswer (p : Params) (c : Chan) (a : Addr) : BusResp :=
  if busResp p (statusAddr a) (wbSpan c) true ≠ .okay then busResp p (statusAddr a) (wbSpan c) true
  else if busResp p (statusAddr a) 4 true ≠ .okay then busResp p (statusAddr a) 4 true
  else appAnswer p c a

/-- Memory after a writeback. -/
def wbMemory (p : Params) (c : Chan) (a : Addr) (x : XRes) (m : Memory) : Memory :=
  if busResp p (statusAddr a) (wbSpan c) true ≠ .okay ∨ busResp p (statusAddr a) 4 true ≠ .okay then m
  else if appAnswer p c a ≠ .okay then m.writeBytes (statusAddr a).toNat (wordBytes (statusWord c x))
  else appWritten c a x (m.writeBytes (statusAddr a).toNat (wordBytes (statusWord c x)))

/-- Past the whole span, the MemWrites of a writeback give its memory and its answer. -/
theorem memWrites_wb {s : State} {c : Chan} {a : Addr} (span : busResp s.cfg (statusAddr a) (wbSpan c) true = .okay)
    (x : XRes) :
    s.memWrites (wbWrites c a x) = (s.setMem (wbMemory s.cfg c a x s.mem), wbAnswer s.cfg c a) := by
  by_cases status : busResp s.cfg (statusAddr a) 4 true = .okay
  · have answer : wbAnswer s.cfg c a = appAnswer s.cfg c a := by
      rw [wbAnswer, if_neg (not_not.2 span), if_neg (not_not.2 status)]
    rw [memWrites_wb_statusAccepted x status, answer, wbMemory,
      if_neg (not_or.2 ⟨not_not.2 span, not_not.2 status⟩), ite_not]
  · have answer : wbAnswer s.cfg c a = busResp s.cfg (statusAddr a) 4 true := by
      rw [wbAnswer, if_neg (not_not.2 span), if_pos status]
    rw [memWrites_wb_statusRefused x status, answer, wbMemory, if_pos (.inr status)]
    rfl

/-- A refused writeback: the parts accepted before the refusal stay (log entry 36). -/
theorem wbStep_refused {s : State} {c : Chan} {r : BusResp}
    (answer : wbAnswer s.cfg c (s.eng.get c).snap.addr = r) (refused : r ≠ .okay) :
    wbStep c s = .next ((s.setMem (wbMemory s.cfg c (s.eng.get c).snap.addr (s.eng.get c).xres s.mem)).setEng c
      (wbRefused r (s.eng.get c))) := by
  by_cases span : busResp s.cfg (statusAddr (s.eng.get c).snap.addr) (wbSpan c) true = .okay
  · simp only [wbStep, span, memWrites_wb span, answer]
  · have whole : busResp s.cfg (statusAddr (s.eng.get c).snap.addr) (wbSpan c) true = r := by
      rwa [wbAnswer, if_pos span] at answer
    rw [wbMemory, if_pos (.inl span)]
    simp only [wbStep, whole]
    rfl

theorem wbAnswer_span {p : Params} {c : Chan} {a : Addr} (h : wbAnswer p c a = .okay) :
    busResp p (statusAddr a) (wbSpan c) true = .okay := by
  by_contra span
  rw [wbAnswer, if_pos span] at h
  exact span h

/-- A descriptor written back whose next pointer is misaligned stops the machine (R262). -/
theorem wbStep_misaligned {s : State} {c : Chan} (answer : wbAnswer s.cfg c (s.eng.get c).snap.addr = .okay)
    (misaligned : (s.eng.get c).snap.next.extractLsb' 0 6 ≠ 0) :
    wbStep c s = .fault (.misalignedDescriptorPointer c (s.eng.get c).snap.next) := by
  have span := wbAnswer_span answer
  have odd : aligned64 (s.eng.get c).snap.next = false := Bool.eq_false_iff.2 (mt (aligned64_iff _).1 misaligned)
  simp only [wbStep, span, memWrites_wb span, answer, odd, Bool.not_false, if_true]

/-- A descriptor written back: the channel goes on to the next one (R261, R262). -/
theorem wbStep_completes {s : State} {c : Chan} (answer : wbAnswer s.cfg c (s.eng.get c).snap.addr = .okay)
    (aligned : (s.eng.get c).snap.next.extractLsb' 0 6 = 0) :
    wbStep c s = .next ((s.setMem (wbMemory s.cfg c (s.eng.get c).snap.addr (s.eng.get c).xres s.mem)).setEng c
      (wbDone (s.eng.get c))) := by
  have span := wbAnswer_span answer
  simp only [wbStep, span, memWrites_wb span, answer, (aligned64_iff _).2 aligned, Bool.not_true, Bool.false_eq_true,
    if_false]

/-! The channel after a writeback that the bus accepted (R260, R262, R270). -/

theorem setDmaErr_eq (r : XResp) (sr : Dmasr) : setDmaErr r sr = { sr with
    dmaDecErr := sr.dmaDecErr || r == .decerr
    dmaSlvErr := sr.dmaSlvErr || r == .slverr
    dmaIntErr := sr.dmaIntErr || r == .interr } := by
  cases r <;> simp [setDmaErr, BEq.beq]

/-- Counting a completion and setting a transfer's error bit do not meet. -/
theorem completionEvent_setDmaErr (r : XResp) (e : Eng) :
    completionEvent { e with sr := setDmaErr r e.sr } = { completionEvent e with sr := { (completionEvent e).sr with
      dmaDecErr := e.sr.dmaDecErr || r == .decerr
      dmaSlvErr := e.sr.dmaSlvErr || r == .slverr
      dmaIntErr := e.sr.dmaIntErr || r == .interr } } := by
  rw [setDmaErr_eq]
  by_cases last : e.cnt = 1
  · rw [completionEvent_last last]
    exact completionEvent_last last
  · rw [completionEvent_counts last]
    exact completionEvent_counts last

theorem wbDone_success {e : Eng} (h : e.xres.resp = .okay) :
    wbDone e = { completionEvent { e with fp := e.snap.next } with
      phase := if e.cr.rs = false then .halted else if e.curdesc = e.taildesc then .idle else .fetch } := by
  simp [wbDone, h, nextPhase]

theorem wbDone_error {e : Eng} (h : e.xres.resp ≠ .okay) :
    wbDone e = errorCompletion { completionEvent { e with fp := e.snap.next } with
      sr := { (completionEvent { e with fp := e.snap.next }).sr with
        dmaDecErr := e.sr.dmaDecErr || e.xres.resp == .decerr
        dmaSlvErr := e.sr.dmaSlvErr || e.xres.resp == .slverr
        dmaIntErr := e.sr.dmaIntErr || e.xres.resp == .interr } } := by
  have done : wbDone e =
      errorCompletion (completionEvent { e with sr := setDmaErr e.xres.resp e.sr, fp := e.snap.next }) := by
    simp only [wbDone]
  exact done.trans (congrArg errorCompletion (completionEvent_setDmaErr e.xres.resp { e with fp := e.snap.next }))

theorem exec_eWb_taken {s : State} {c : Chan} (ready : s.rstBusy = false) (phase : (s.eng.get c).phase = .wb) :
    exec (.eWb c) s = wbStep c s :=
  exec_engine_taken rfl (wbEnabled_iff.2 ⟨ready, phase⟩)

/-- Settles O45: the bus's answer is `wbAnswer`, memory after it `wbMemory`, and the channel after it `wbRefused` or
`wbDone`. -/
theorem writebackCompletes : Obligations.WritebackCompletes := by
  rintro s c e a nx app w w4 w20 b m1 m2 m ev ready rfl phase rfl rfl rfl rfl rfl rfl bus rfl rfl mem rfl
  rw [← wbSpan_eq] at bus mem
  have answer : wbAnswer s.cfg c (s.eng.get c).snap.addr = b := bus.symm
  have written : wbMemory s.cfg c (s.eng.get c).snap.addr (s.eng.get c).xres s.mem = m := mem.symm
  rw [exec_eWb_taken ready phase, ← written]
  refine ⟨fun decerr => ?decerr, fun slverr => ?slverr, fun okay => ⟨fun misaligned => ?misaligned,
    fun aligned success => ?success, fun aligned failure => ?failure⟩⟩
  case decerr => exact wbStep_refused (answer.trans decerr) nofun
  case slverr => exact wbStep_refused (answer.trans slverr) nofun
  case misaligned => exact wbStep_misaligned (answer.trans okay) misaligned
  case success =>
    rw [wbStep_completes (answer.trans okay) aligned, wbDone_success success]
    rfl
  case failure =>
    rw [wbStep_completes (answer.trans okay) aligned, wbDone_error failure, errorCompletion, completionEvent_cr]
    rfl

end Sys2Proof.Machine
end

section
/-! An engine's steps neither read nor write what lies beside the engine (20_memory.md R123; 42_engine_sequencer.md
R251). -/

namespace Sys2Proof.Machine

/-- An update of the machine that leaves all that an engine's steps read as it is, and commutes with all that they
write. -/
structure BesideEngine (c : Chan) (f : State → State) : Prop where
  cfg : ∀ s, (f s).cfg = s.cfg
  rstBusy : ∀ s, (f s).rstBusy = s.rstBusy
  mem : ∀ s, (f s).mem = s.mem
  outs : ∀ s, (f s).outs = s.outs
  engine : ∀ s, (f s).eng.get c = s.eng.get c
  choice : ∀ s k, (f s).choice k = s.choice k
  setEng : ∀ s e, (f s).setEng c e = f (s.setEng c e)
  setMem : ∀ s m, (f s).setMem m = f (s.setMem m)
  spend : ∀ s k, (f s).spend k = f (s.spend k)
  setOuts : ∀ s o, { f s with outs := o } = f { s with outs := o }

/-- The other engine is beside an engine. -/
theorem besideEngine_other (c : Chan) (e : Eng) : BesideEngine c fun s => s.setEng (otherChan c) e := by
  cases c <;> constructor <;> intros <;> rfl

/-- The store buffer and the cache are beside either engine. -/
theorem besideEngine_hostPath (c : Chan) (b : List SbEntry) (ls : List CacheLine) :
    BesideEngine c fun s => { s with sb := b, cache := ls } := by
  constructor <;> intros <;> rfl

section
variable {c : Chan} {f : State → State} (beside : BesideEngine c f) (s : State)
include beside

theorem BesideEngine.engineEnabled {i : Instr} (hi : engineChan i = some c) :
    (f s).engineEnabled i = s.engineEnabled i := by
  have engine := beside.engine s
  have rstBusy := beside.rstBusy s
  cases i with
  | eHalt | eFetch | eXferTx | eXferRx | eWb | eDelay =>
    cases hi
    simp only [State.engineEnabled, State.haltEnabled, State.fetchEnabled, State.xferEnabled, State.wbEnabled,
      State.delayEnabled, State.engineRuns, engine, rstBusy]
  | _ => cases hi

theorem BesideEngine.fetchStep : fetchStep c (f s) = f (fetchStep c s) := by
  simp only [Machine.fetchStep, beside.cfg, beside.mem, beside.engine, beside.choice]
  generalize busResp s.cfg (s.eng.get c).fp 52 false = r
  cases r with
  | okay =>
    by_cases completed : cmpltBit (fetchSnap s.mem (s.eng.get c).fp).status = true
    · simp only [completed, if_true, beside.setEng]
    · by_cases empty : lenField (fetchSnap s.mem (s.eng.get c).fp).control = 0
      · simp only [completed, empty, if_true, beside.setEng, beside.spend]
        rfl
      · simp only [completed, empty, if_false, beside.setEng]
        rfl
  | slverr | decerr => exact beside.setEng s _

theorem BesideEngine.memWrites (ws : List (Addr × List Byte)) :
    (f s).memWrites ws = (f (s.memWrites ws).1, (s.memWrites ws).2) := by
  induction ws generalizing s with
  | nil => rfl
  | cons w ws ih =>
    obtain ⟨a, bs⟩ := w
    simp only [State.memWrites, State.memWrite, beside.cfg, beside.mem, beside.setMem]
    cases busResp s.cfg a bs.length true with
    | okay => exact ih _
    | slverr | decerr => rfl

theorem BesideEngine.wbStep : wbStep c (f s) = mapNext f (wbStep c s) := by
  simp only [Machine.wbStep, beside.cfg, beside.engine, beside.memWrites]
  generalize s.memWrites (wbWrites c (s.eng.get c).snap.addr (s.eng.get c).xres) = written
  obtain ⟨t, r⟩ := written
  generalize busResp s.cfg (statusAddr (s.eng.get c).snap.addr) (wbSpan c) true = span
  cases span with
  | okay =>
    cases r with
    | okay =>
      by_cases misaligned : (!aligned64 (s.eng.get c).snap.next) = true
      · simp only [misaligned, if_true, mapNext]
      · simp only [misaligned, mapNext, beside.setEng]
        rfl
    | slverr | decerr => exact congrArg _ (beside.setEng t _)
  | slverr | decerr => exact congrArg _ (beside.setEng s _)

end

theorem BesideEngine.xferTxStep {f : State → State} (beside : BesideEngine .tx f) (s : State) :
    xferTxStep (f s) = f (xferTxStep s) := by
  have engine : (f s).eng.tx = s.eng.tx := beside.engine s
  simp only [Machine.xferTxStep, beside.cfg, beside.mem, beside.outs, engine]
  generalize busResp s.cfg s.eng.tx.snap.bufAddr (lenField s.eng.tx.snap.control).toNat false = r
  cases r with
  | okay =>
    simp only [beside.setEng]
    exact beside.setOuts _ _
  | slverr | decerr => exact beside.setEng s _

theorem BesideEngine.xferRxStep {f : State → State} (beside : BesideEngine .rx f) (s : State) :
    xferRxStep (f s) = f (xferRxStep s) := by
  have engine : (f s).eng.rx = s.eng.rx := beside.engine s
  simp only [Machine.xferRxStep, beside.cfg, beside.mem, beside.choice, beside.spend, engine]
  by_cases empty : s.choice 0 % ((lenField s.eng.rx.snap.control).toNat + 1) = 0
  · simp only [empty, if_true, beside.setMem, beside.setEng]
  · simp only [empty, if_false]
    generalize busResp s.cfg s.eng.rx.snap.bufAddr _ true = r
    cases r with
    | okay => simp only [beside.setMem, beside.setEng]
    | slverr | decerr => exact beside.setEng _ _

/-- What an engine's step does when it is taken, it does alike beside an update. -/
theorem BesideEngine.engineEffect {i : Instr} {c : Chan} (hi : engineChan i = some c) {f : State → State}
    (beside : BesideEngine c f) (s : State) : engineEffect i (f s) = mapNext f (engineEffect i s) := by
  cases i with
  | eHalt | eDelay =>
    cases hi
    simp only [Machine.engineEffect, beside.engine, beside.setEng, mapNext]
  | eFetch =>
    cases hi
    exact congrArg _ (beside.fetchStep s)
  | eXferTx =>
    cases hi
    exact congrArg _ (beside.xferTxStep s)
  | eXferRx =>
    cases hi
    exact congrArg _ (beside.xferRxStep s)
  | eWb =>
    cases hi
    exact beside.wbStep s
  | _ => cases hi

theorem BesideEngine.exec {i : Instr} {c : Chan} (hi : engineChan i = some c) {f : State → State}
    (beside : BesideEngine c f) (s : State) : exec i (f s) = mapNext f (exec i s) := by
  rw [exec_engine hi, exec_engine hi, beside.engineEnabled s hi, beside.engineEffect hi]
  cases s.engineEnabled i <;> rfl

/-- A step keeps what an update beside the engine sets: from a state the update leaves as it is, it goes to such a
state. -/
theorem BesideEngine.fixed {i : Instr} {c : Chan} (hi : engineChan i = some c) {f : State → State}
    (beside : BesideEngine c f) {s t : State} (fixed : f s = s) (h : Machine.exec i s = .next t) : f t = t := by
  have mapped := beside.exec hi s
  rw [fixed, h] at mapped
  exact (Host.Outcome.next.inj mapped).symm

/-- Settles O54: the other engine, and the store buffer with the cache, are beside the engine that steps. -/
theorem enginesAreIndependent : Obligations.EnginesAreIndependent := by
  intro i c s e b ls hi
  refine ⟨(besideEngine_other c e).exec hi s, (besideEngine_hostPath c b ls).exec hi s, fun t h => ?_⟩
  have other := (besideEngine_other c (s.eng.get (otherChan c))).fixed hi (by simp [State.setEng]) h
  have hostPath := (besideEngine_hostPath c s.sb s.cache).fixed hi rfl h
  refine ⟨?_, (congrArg State.sb hostPath).symm, (congrArg State.cache hostPath).symm⟩
  rw [← other, State.setEng_eng, Pair.get_set_self]

end Sys2Proof.Machine
end

section
/-! The transition table of the phases (42_engine_sequencer.md R250): which operations change a channel's phase, and how. -/

namespace Sys2Proof.Machine

/-- A row of the transition table: an operation that may take a channel `c`, in the state `e`, to another phase, and that
phase. -/
inductive PhaseRow (i : Instr) (c : Chan) (e : Eng) : Phase → Prop
  /-- RS = 1 is written to a halted channel (R182). -/
  | starts {v : Word} (op : i = wrInstr c .dmacr v) (halted : e.phase = .halted) (running : v.getLsbD 0 = true) :
    PhaseRow i c e .idle
  /-- The tail is written (R252). -/
  | walks {v : Word} (op : i = wrInstr c .taildescLsb v) (idle : e.phase = .idle) : PhaseRow i c e .fetch
  /-- E_HALT (R253). -/
  | halts (op : i = .eHalt c) (waiting : e.phase = .idle ∨ e.phase = .fetch) (stopped : e.cr.rs = false) :
    PhaseRow i c e .halted
  /-- E_FETCH (R255 to R257). -/
  | fetches {q : Phase} (op : i = .eFetch c) (fetch : e.phase = .fetch) (running : e.cr.rs = true)
    (next : q = .xfer ∨ q = .wb ∨ q = .halted) : PhaseRow i c e q
  /-- E_XFER (R258, R259). -/
  | transfers (op : (c = .tx ∧ i = .eXferTx) ∨ (c = .rx ∧ i = .eXferRx)) (xfer : e.phase = .xfer) : PhaseRow i c e .wb
  /-- E_WB reports an error, or finds RS = 0 (R260, R262). -/
  | wbHalts (op : i = .eWb c) (wb : e.phase = .wb) : PhaseRow i c e .halted
  /-- E_WB at the tail (R262). -/
  | wbRests (op : i = .eWb c) (wb : e.phase = .wb) (running : e.cr.rs = true) (tail : e.curdesc = e.taildesc) :
    PhaseRow i c e .idle
  /-- E_WB before the tail (R262). -/
  | wbFetches (op : i = .eWb c) (wb : e.phase = .wb) (running : e.cr.rs = true) (more : e.curdesc ≠ e.taildesc) :
    PhaseRow i c e .fetch
  /-- A soft reset (R184). -/
  | resets (op : asksReset i = true) : PhaseRow i c e .halted

/-- The phase of each channel stays, or changes by a row of the table. -/
def FollowsTable (i : Instr) (s t : State) : Prop :=
  ∀ c, (t.eng.get c).phase = (s.eng.get c).phase ∨ PhaseRow i c (s.eng.get c) (t.eng.get c).phase

theorem followsTable_of_same {i : Instr} {s t : State} (h : t.eng = s.eng) : FollowsTable i s t :=
  fun c => .inl (by rw [h])

/-- An operation that writes one channel follows the table if that channel does. -/
theorem followsTable_of_set {i : Instr} {c : Chan} {s t : State} {e : Eng} (h : t.eng = s.eng.set c e)
    (row : e.phase = (s.eng.get c).phase ∨ PhaseRow i c (s.eng.get c) e.phase) : FollowsTable i s t := by
  intro d
  rw [h]
  by_cases same : d = c
  · rw [same, Pair.get_set_self]
    exact row
  · exact .inl (by rw [Pair.get_set_other _ _ same])

/-! Register writes. -/

theorem followsTable_reset {i : Instr} {s : State} (h : asksReset i = true) (v : Value) :
    FollowsTable i s (s.softReset.answer v) := by
  intro d
  obtain ⟨snap, xres, hd⟩ := s.softReset_get d
  rw [State.answer_eng, hd]
  exact .inr (.resets h)

theorem writeCr_phase (c : Chan) (e : Eng) (v : Word) (t : BitVec 8) :
    (writeCr e v t).phase = e.phase ∨ PhaseRow (wrInstr c .dmacr v) c e (writeCr e v t).phase := by
  rw [writeCr_eq]
  by_cases start : v.getLsbD 0 = true ∧ e.phase = .halted
  · obtain ⟨running, halted⟩ := start
    simp only [if_pos (And.intro running halted)]
    exact .inr (.starts rfl halted running)
  · exact .inl (if_neg start)

theorem tailWritten_phase (c : Chan) (e : Eng) (v : Word) :
    (tailWritten e v).phase = e.phase ∨ PhaseRow (wrInstr c .taildescLsb v) c e (tailWritten e v).phase := by
  rw [tailWritten_eq]
  by_cases idle : e.phase = .idle
  · simp only [if_pos idle]
    exact .inr (.walks rfl idle)
  · exact .inl (if_neg idle)

theorem asksReset_wrInstr_dmacr (c : Chan) (v : Word) : asksReset (wrInstr c .dmacr v) = v.getLsbD 2 := by
  cases c <;> rfl

theorem followsTable_write {c : Chan} {r : Reg} {v : Word} {s t : State} (h : exec (wrInstr c r v) s = .next t) :
    FollowsTable (wrInstr c r v) s t := by
  have h := exec_wrInstr_next h
  cases r with
  | dmacr =>
    obtain ⟨-, -, ⟨reset, rfl⟩ | ⟨-, -, rfl⟩ | ⟨-, -, rfl⟩⟩ := writeDmacr_next.1 h
    · exact followsTable_reset ((asksReset_wrInstr_dmacr c v).trans reset) .unit
    all_goals exact followsTable_of_set rfl (writeCr_phase c _ v _)
  | dmasr | taildescMsb =>
    cases h
    exact followsTable_of_set rfl (.inl rfl)
  | curdescLsb =>
    obtain ⟨-, -, rfl⟩ := writeCurdescLsb_next.1 h
    exact followsTable_of_set rfl (.inl rfl)
  | curdescMsb =>
    obtain ⟨-, rfl⟩ := writeCurdescMsb_next.1 h
    exact followsTable_of_set rfl (.inl rfl)
  | taildescLsb =>
    obtain ⟨-, rfl⟩ := writeTaildescLsb_next.1 h
    exact followsTable_of_set rfl (tailWritten_phase c _ v)

/-! The engine's steps. -/

/-- A fetch goes to XFER, WB or HALTED (R255 to R257). -/
theorem fetchStep_phase (c : Chan) (s : State) :
    ∃ e, (fetchStep c s).eng = s.eng.set c e ∧ (e.phase = .xfer ∨ e.phase = .wb ∨ e.phase = .halted) := by
  simp only [fetchStep]
  split
  · split
    · exact ⟨_, rfl, .inr (.inr rfl)⟩
    · split
      · exact ⟨_, rfl, .inr (.inl rfl)⟩
      · exact ⟨_, rfl, .inl rfl⟩
  · exact ⟨_, rfl, .inr (.inr rfl)⟩
  · exact ⟨_, rfl, .inr (.inr rfl)⟩

theorem xferTxStep_phase (s : State) : ∃ e, (xferTxStep s).eng = s.eng.set .tx e ∧ e.phase = .wb := by
  simp only [xferTxStep]
  split <;> exact ⟨_, rfl, rfl⟩

theorem xferRxStep_phase (s : State) : ∃ e, (xferRxStep s).eng = s.eng.set .rx e ∧ e.phase = .wb := by
  simp only [xferRxStep]
  split <;> exact ⟨_, rfl, rfl⟩

/-- After a writeback the bus accepted, where the walk goes (R262). -/
theorem wbDone_phase {e : Eng} (wb : e.phase = .wb) (c : Chan) : PhaseRow (.eWb c) c e (wbDone e).phase := by
  by_cases success : e.xres.resp = .okay
  · rw [wbDone_success success]
    by_cases stopped : e.cr.rs = false
    · simp only [if_pos stopped]
      exact .wbHalts rfl wb
    · have running : e.cr.rs = true := Bool.eq_true_of_not_eq_false stopped
      by_cases tail : e.curdesc = e.taildesc
      · simp only [if_neg stopped, if_pos tail]
        exact .wbRests rfl wb running tail
      · simp only [if_neg stopped, if_neg tail]
        exact .wbFetches rfl wb running tail
  · rw [wbDone_error success]
    exact .wbHalts rfl wb

theorem wbStep_phase {c : Chan} {s t : State} (wb : (s.eng.get c).phase = .wb) (h : wbStep c s = .next t) :
    ∃ e, t.eng = s.eng.set c e ∧ PhaseRow (.eWb c) c (s.eng.get c) e.phase := by
  by_cases answer : wbAnswer s.cfg c (s.eng.get c).snap.addr = .okay
  · by_cases aligned : (s.eng.get c).snap.next.extractLsb' 0 6 = 0
    · rw [wbStep_completes answer aligned] at h
      cases h
      exact ⟨_, rfl, wbDone_phase wb c⟩
    · rw [wbStep_misaligned answer aligned] at h
      cases h
  · rw [wbStep_refused rfl answer] at h
    cases h
    exact ⟨_, rfl, .wbHalts rfl wb⟩

theorem followsTable_engine {i : Instr} {c : Chan} (hi : engineChan i = some c) {s t : State}
    (h : exec i s = .next t) : FollowsTable i s t := by
  rw [exec_engine hi] at h
  obtain ⟨enabled, h⟩ | ⟨-, rfl⟩ := whenEnabled_next.1 h
  · cases i with
    | eHalt d =>
      obtain ⟨-, waiting, stopped⟩ := haltEnabled_iff.1 enabled
      cases h
      exact followsTable_of_set rfl (.inr (.halts rfl waiting stopped))
    | eFetch d =>
      obtain ⟨-, fetch, running⟩ := fetchEnabled_iff.1 enabled
      obtain ⟨e, written, next⟩ := fetchStep_phase d s
      cases h
      exact followsTable_of_set written (.inr (.fetches rfl fetch running next))
    | eXferTx =>
      obtain ⟨-, xfer⟩ := xferEnabled_iff.1 enabled
      obtain ⟨e, written, wb⟩ := xferTxStep_phase s
      cases h
      exact followsTable_of_set written (.inr (wb ▸ .transfers (.inl ⟨rfl, rfl⟩) xfer))
    | eXferRx =>
      obtain ⟨-, xfer⟩ := xferEnabled_iff.1 enabled
      obtain ⟨e, written, wb⟩ := xferRxStep_phase s
      cases h
      exact followsTable_of_set written (.inr (wb ▸ .transfers (.inr ⟨rfl, rfl⟩) xfer))
    | eWb d =>
      obtain ⟨-, wb⟩ := wbEnabled_iff.1 enabled
      obtain ⟨e, written, row⟩ := wbStep_phase wb h
      exact followsTable_of_set written (.inr row)
    | eDelay d =>
      cases h
      exact followsTable_of_set rfl (.inl rfl)
    | _ => cases hi
  · exact followsTable_of_same rfl

/-! Every operation. -/

theorem exec_followsTable {i : Instr} {s t : State} (h : exec i s = .next t) : FollowsTable i s t := by
  cases i with
  | wrTxDmacr v => exact followsTable_write (c := .tx) (r := .dmacr) h
  | wrTxDmasr v => exact followsTable_write (c := .tx) (r := .dmasr) h
  | wrTxCurdescLsb v => exact followsTable_write (c := .tx) (r := .curdescLsb) h
  | wrTxCurdescMsb v => exact followsTable_write (c := .tx) (r := .curdescMsb) h
  | wrTxTaildescLsb v => exact followsTable_write (c := .tx) (r := .taildescLsb) h
  | wrTxTaildescMsb v => exact followsTable_write (c := .tx) (r := .taildescMsb) h
  | wrRxDmacr v => exact followsTable_write (c := .rx) (r := .dmacr) h
  | wrRxDmasr v => exact followsTable_write (c := .rx) (r := .dmasr) h
  | wrRxCurdescLsb v => exact followsTable_write (c := .rx) (r := .curdescLsb) h
  | wrRxCurdescMsb v => exact followsTable_write (c := .rx) (r := .curdescMsb) h
  | wrRxTaildescLsb v => exact followsTable_write (c := .rx) (r := .taildescLsb) h
  | wrRxTaildescMsb v => exact followsTable_write (c := .rx) (r := .taildescMsb) h
  | eHalt | eFetch | eXferTx | eXferRx | eWb | eDelay => exact followsTable_engine rfl h
  | _ => exact followsTable_of_same (congrArg Parts.eng (exec_parts h))

/-- Settles O55: each row of the table is one of the statement's. -/
theorem phaseTransitionsAreTheTable : Obligations.PhaseTransitionsAreTheTable := by
  rintro i s t c p q h rfl rfl changed
  have row := (exec_followsTable h c).resolve_left changed.symm
  generalize (t.eng.get c).phase = q at row ⊢
  cases row with
  | starts op halted running => exact .inl ⟨halted, rfl, _, op, running⟩
  | walks op idle => exact .inr (.inl ⟨idle, rfl, _, op⟩)
  | halts op waiting stopped => exact .inr (.inr (.inl ⟨waiting, rfl, op, stopped⟩))
  | fetches op fetch running next => exact .inr (.inr (.inr (.inl ⟨fetch, next, op, running⟩)))
  | transfers op xfer => exact .inr (.inr (.inr (.inr (.inl ⟨xfer, rfl, op⟩))))
  | wbHalts op wb => exact .inr (.inr (.inr (.inr (.inr (.inl ⟨wb, op, .inl rfl⟩)))))
  | wbRests op wb running tail =>
    exact .inr (.inr (.inr (.inr (.inr (.inl ⟨wb, op, .inr (.inl ⟨rfl, running, tail⟩)⟩)))))
  | wbFetches op wb running more =>
    exact .inr (.inr (.inr (.inr (.inr (.inl ⟨wb, op, .inr (.inr ⟨rfl, running, more⟩)⟩)))))
  | resets op => exact .inr (.inr (.inr (.inr (.inr (.inr ⟨rfl, op⟩)))))

end Sys2Proof.Machine
end

section
/-! The checks of the driver's procedures at entry (43_ring.md R310; 44_channel.md R330 to R332; 45_interrupt.md R350;
46_configure.md R365, R370; 47_controller.md R390; 41_host_primitives.md R231). -/

namespace Sys2Proof.Machine

theorem chanOf_none {c : Nat} (h : 2 ≤ c) : chanOf c = none := by
  unfold chanOf
  split
  · omega
  · omega
  · rfl

theorem withReady_noChannel {c : Nat} (h : 2 ≤ c) (s : State) (f : Chan → Res) :
    withReady c s f = .fault .badConfiguration := by
  rw [withReady, chanOf_none h]

theorem withChannel_noChannel {c : Nat} (h : 2 ≤ c) (s : State) (f : Chan → Res) :
    withChannel c s f = .next (s.answer (.code .einval)) := by
  rw [withChannel, chanOf_none h]

theorem withReady_unready {s : State} (h : s.ctl ≠ .ready) (c : Chan) (f : Chan → Res) :
    withReady (chanNum c) s f = .fault .deviceUnusable := by
  rw [withReady, chanOf_chanNum]
  exact if_neg h

theorem withChannel_unready {s : State} (h : s.ctl ≠ .ready) (c : Chan) (f : Chan → Res) :
    withChannel (chanNum c) s f = .fault .deviceUnusable := by
  rw [withChannel, chanOf_chanNum]
  exact if_neg h

theorem whenConfigured_unconfigured {s : State} {c : Chan} (h : (s.ch.get c).configured = false) (r : Res) :
    whenConfigured c s r = .fault (.unconfiguredChannel c) := by
  rw [whenConfigured, h]
  exact if_neg Bool.false_ne_true

theorem exec_configure_reclaiming {s : State} {c : Chan} (ready : s.ctl = .ready) (h : s.reclaiming c = true)
    (q : CfgReq) : exec (.configure (chanNum c) q) s = .fault .badConfiguration :=
  (withChannel_ready ready c _).trans (if_pos h)

/-- DECREMENT and the wrong direction (R365). -/
theorem exec_configure_unsupported {s : State} {c : Chan} (ready : s.ctl = .ready) (idle : s.reclaiming c = false)
    {q : CfgReq} (h : q.srcAdj = .decrement ∨ q.dstAdj = .decrement ∨ q.direction ≠ (s.ch.get c).dir) :
    exec (.configure (chanNum c) q) s = .next (s.answer (.code .enotsup)) := by
  refine (withChannel_ready ready c _).trans ((if_neg (by simp [idle])).trans ?_)
  by_cases decrement : q.srcAdj = .decrement ∨ q.dstAdj = .decrement
  · exact if_pos decrement
  · exact (if_neg decrement).trans (if_pos ((or_assoc.2 h).resolve_left decrement))

/-- The program point that ends an iteration is what shows a Reclaim under way (log entry 15). -/
theorem State.reclaiming_of_mem {s : State} {c : Chan} {key : Key} {n : Nat} (h : .cont (.rcNext c key n) ∈ s.code) :
    s.reclaiming c = true := by
  rw [State.reclaiming, List.any_eq_true]
  exact ⟨_, h, beq_self_eq_true c⟩

/-- CALLBACK whose body is a single CONFIGURE: the call is the context's next operation (R231). -/
theorem stepAs_callback_configure {s : State} {c : Chan} {r : CbResult} {q : CfgReq} {bs : List (List Instr)}
    {rest : List Item} (valid : paramsValid s.cfg = true) (hc : s.code = .op (.callback (chanNum c) r) :: rest)
    (body : s.bodies = [.configure (chanNum c) q] :: bs) :
    ∃ t, stepAs .host s = .next t ∧ t.cfg = s.cfg ∧ t.ctl = s.ctl ∧
      t.code = .op (.configure (chanNum c) q) :: rest := by
  have given : (s.setCode rest).nextBody = [.configure (chanNum c) q] :=
    State.nextBody_given (s := s.setCode rest) body
  have taken := stepAs_op valid hc nofun
  rw [exec_callback, given] at taken
  exact ⟨_, taken.trans (congrArg _ (State.settle_of_code (by simp))), rfl, rfl, by simp⟩

/-- Settles O26: each clause is one of the checks, and the callback's body meets CONFIGURE's. -/
theorem procedureChecks : Obligations.ProcedureChecks := by
  refine ⟨fun s c buf src dst len f l q hc => ?noChannel, fun s c buf src dst len f l q unready => ?unready,
    fun s c buf len f l ready unconfigured => ?unconfigured,
    fun s c q ready idle h => exec_configure_unsupported ready idle h,
    fun s c q ready h => exec_configure_reclaiming ready h q,
    fun s c r q bs rest key n valid ready hc under body => ?callback, fun s h => if_pos h,
    fun s uninit other => (if_neg (not_not.2 uninit)).trans (if_pos other)⟩
  case noChannel =>
    exact ⟨withReady_noChannel hc s _, withReady_noChannel hc s _, withReady_noChannel hc s _,
      withChannel_noChannel hc s _, withChannel_noChannel hc s _, withChannel_noChannel hc s _,
      withChannel_noChannel hc s _, withChannel_noChannel hc s _⟩
  case unready =>
    exact ⟨withReady_unready unready c _, withReady_unready unready c _, withReady_unready unready c _,
      withChannel_unready unready c _, withChannel_unready unready c _, withChannel_unready unready c _,
      withReady_unready unready c _, withChannel_unready unready c _, withChannel_unready unready c _⟩
  case unconfigured =>
    have refused := whenConfigured_unconfigured unconfigured
    exact ⟨(withReady_ready ready c _).trans (refused _), (withReady_ready ready c _).trans (refused _),
      (withChannel_ready ready c _).trans (refused _)⟩
  case callback =>
    obtain ⟨t, called, hcfg, hctl, code⟩ := stepAs_callback_configure valid hc body
    have reclaiming : (t.setCode rest).reclaiming c = true := State.reclaiming_of_mem (by simpa using under)
    have refused : exec (.configure (chanNum c) q) (t.setCode rest) = .fault .badConfiguration :=
      exec_configure_reclaiming (s := t.setCode rest) (hctl.trans ready) reclaiming q
    rw [hostRun_succ called, hostRun, stepAs_op (hcfg ▸ valid) code nofun,
      refused]
    rfl

end Sys2Proof.Machine
end

section
/-! Runs of a procedure's expansion: the running context poised before its code, and one rule per operation that the ring's
procedures use (30_encoding.md R171; 41_host_primitives.md R220 to R231). -/

namespace Sys2Proof.Machine

/-! Runs. -/

/-- A run of the host alone leads from `s` to `t`, and it waits at no FENCE, so that it is a quiet run too. -/
def HostRuns (s t : State) : Prop := ∃ n, hostRun n s = .next t ∧ quietRun n s = .next t

/-- A quiet run leads from `s` to `t`. -/
def QuietRuns (s t : State) : Prop := ∃ n, quietRun n s = .next t

theorem HostRuns.refl (s : State) : HostRuns s s := ⟨0, rfl, rfl⟩

theorem HostRuns.trans {s t u : State} (h : HostRuns s t) (k : HostRuns t u) : HostRuns s u := by
  obtain ⟨n, hn, hn'⟩ := h
  obtain ⟨m, hm, hm'⟩ := k
  exact ⟨n + m, (hostRun_add hn m).trans hm, (quietRun_add hn' m).trans hm'⟩

theorem HostRuns.quiet {s t : State} (h : HostRuns s t) : QuietRuns s t := h.imp fun _ run => run.2

theorem QuietRuns.trans {s t u : State} (h : QuietRuns s t) (k : QuietRuns t u) : QuietRuns s u := by
  obtain ⟨n, hn⟩ := h
  obtain ⟨m, hm⟩ := k
  exact ⟨n + m, (quietRun_add hn m).trans hm⟩

theorem HostRuns.of_step {s t : State} (free : s.waitsAtFence = false) (h : stepAs .host s = .next t) : HostRuns s t :=
  ⟨1, hostRun_succ h 0, quietRun_succ ((quietStep_host free).trans h) 0⟩

/-! The running context poised before its code. -/

/-- The state with `is` for the running context to run, its last operation having returned `v`. -/
def State.poised (s : State) (is : List Item) (v : Value) : State := s.setRunning { s.running with code := is, ret := v }

section
variable (s : State) (is js : List Item) (v w : Value)

@[simp] theorem State.poised_cfg : (s.poised is v).cfg = s.cfg := rfl
@[simp] theorem State.poised_eng : (s.poised is v).eng = s.eng := rfl
@[simp] theorem State.poised_rstBusy : (s.poised is v).rstBusy = s.rstBusy := rfl
@[simp] theorem State.poised_gie : (s.poised is v).gie = s.gie := rfl
@[simp] theorem State.poised_lines : (s.poised is v).lines = s.lines := rfl
@[simp] theorem State.poised_sb : (s.poised is v).sb = s.sb := rfl
@[simp] theorem State.poised_cache : (s.poised is v).cache = s.cache := rfl
@[simp] theorem State.poised_ch : (s.poised is v).ch = s.ch := rfl
@[simp] theorem State.poised_ctl : (s.poised is v).ctl = s.ctl := rfl
@[simp] theorem State.poised_cblog : (s.poised is v).cblog = s.cblog := rfl
@[simp] theorem State.poised_outs : (s.poised is v).outs = s.outs := rfl
@[simp] theorem State.poised_logs : (s.poised is v).logs = s.logs := rfl
@[simp] theorem State.poised_mem : (s.poised is v).mem = s.mem := rfl
@[simp] theorem State.poised_bodies : (s.poised is v).bodies = s.bodies := rfl
@[simp] theorem State.poised_hostByte (x : Nat) : (s.poised is v).hostByte x = s.hostByte x := rfl
@[simp] theorem State.poised_hostWord (a : Addr) : (s.poised is v).hostWord a = s.hostWord a := rfl
@[simp] theorem State.poised_loadWord (a : Addr) : (s.poised is v).loadWord a = s.loadWord a := rfl

@[simp] theorem State.code_poised : (s.poised is v).code = is := by simp [State.poised, State.code]
@[simp] theorem State.ret_poised : (s.poised is v).ret = v := by simp [State.poised, State.ret]

@[simp] theorem State.setCode_poised : (s.poised is v).setCode js = s.poised js v := by
  simp [State.poised, State.setCode]

@[simp] theorem State.answer_poised : (s.poised is v).answer w = s.poised is w := by
  simp [State.poised, State.answer]

@[simp] theorem State.push_poised : (s.poised is v).push js = s.poised (js ++ is) v := by
  rw [State.push, State.setCode_poised, State.code_poised]

theorem State.poised_self : s.poised s.code s.ret = s := s.setRunning_running

/-- The interrupted contexts stay. -/
theorem State.poised_interrupted : (s.poised is v).irqs.drop 1 = s.irqs.drop 1 := by
  rw [State.poised, State.setRunning_irqs]
  cases s.irqs <;> rfl

/-- An interrupt context is not popped while it has something left to run (60_exceptions.md R426). -/
theorem State.settle_poised (later : s.irqs = [] ∨ is ≠ []) : (s.poised is v).settle = s.poised is v := by
  rcases later with thread | more
  · refine State.settle_of_thread ?_
    rw [State.poised, State.setRunning_irqs, thread]
    rfl
  · exact State.settle_of_code (by simpa using more)

theorem State.waitsAtFence_poised {it : Item} (h : it ≠ .op .fence) :
    (s.poised (it :: is) v).waitsAtFence = false := by
  simp [State.waitsAtFence, h]

end

/-! One rule per kind of item. -/

section
variable {s u : State} {is js : List Item} {v w : Value}

/-- The state a host step leaves, when the running context goes on. -/
theorem HostRuns.item {it : Item} (valid : paramsValid s.cfg = true) (free : it ≠ .op .fence)
    (run : runItem it (s.poised is v) = .next (u.poised js w)) (later : u.irqs = [] ∨ js ≠ []) :
    HostRuns (s.poised (it :: is) v) (u.poised js w) := by
  refine .of_step (State.waitsAtFence_poised s is v free) ?_
  rw [stepAs_host (s := s.poised (it :: is) v) valid (State.code_poised ..), State.setCode_poised, run]
  exact congrArg _ (State.settle_poised u js w later)

theorem HostRuns.op {i : Instr} (valid : paramsValid s.cfg = true) (auto : i.opClass ≠ .auto) (free : i ≠ .fence)
    (run : exec i (s.poised is v) = .next (u.poised js w)) (later : u.irqs = [] ∨ js ≠ []) :
    HostRuns (s.poised (.op i :: is) v) (u.poised js w) :=
  .item valid (fun h => free (Item.op.inj h)) ((if_neg auto).trans run) later

theorem HostRuns.cont {k : Cont} (valid : paramsValid s.cfg = true)
    (run : runPoint k (s.poised is v) = u.poised js w) (later : u.irqs = [] ∨ js ≠ []) :
    HostRuns (s.poised (.cont k :: is) v) (u.poised js w) :=
  .item valid nofun (congrArg _ run) later

/-- The return of a procedure. -/
theorem HostRuns.ret (valid : paramsValid s.cfg = true) (later : s.irqs = [] ∨ is ≠ []) :
    HostRuns (s.poised (.cont (.ret w) :: is) v) (s.poised is w) :=
  .cont valid (State.answer_poised s is v w) later

end

/-! The memory path beside the running context. -/

/-- An update of the state that the host's memory path below the store buffer neither sees nor is seen by. -/
structure BesidePath (f : State → State) : Prop where
  cfg : ∀ s, (f s).cfg = s.cfg
  mem : ∀ s, (f s).mem = s.mem
  cache : ∀ s, (f s).cache = s.cache
  setMem : ∀ s m, (f s).setMem m = f (s.setMem m)
  setCache : ∀ s ls, (f s).setCache ls = f (s.setCache ls)

theorem besidePath_poised (is : List Item) (v : Value) : BesidePath (State.poised · is v) :=
  ⟨fun _ => rfl, fun _ => rfl, fun _ => rfl, fun _ _ => rfl, fun _ _ => rfl⟩

theorem besidePath_withSb (b : List SbEntry) : BesidePath (State.withSb · b) :=
  ⟨fun _ => rfl, fun _ => rfl, fun _ => rfl, fun _ _ => rfl, fun _ _ => rfl⟩

section
variable {f : State → State} (beside : BesidePath f) (s : State)
include beside

theorem BesidePath.drainByte (alloc : Bool) (x : Nat) (b : Byte) :
    (f s).drainByte alloc x b = f (s.drainByte alloc x b) := by
  simp only [State.drainByte, beside.cfg, beside.mem, beside.cache, beside.setMem, beside.setCache]
  split
  · split
    · rfl
    · split <;> rfl
  · rfl

theorem BesidePath.drainBytes (alloc : Bool) (x : Nat) (bs : List Byte) :
    (f s).drainBytes alloc x bs = f (s.drainBytes alloc x bs) := by
  induction bs generalizing s x with
  | nil => rfl
  | cons b bs ih => rw [State.drainBytes, beside.drainByte, ih, State.drainBytes]

theorem BesidePath.fillLines (xs : List Nat) : (f s).fillLines xs = f (s.fillLines xs) := by
  induction xs generalizing s with
  | nil => rfl
  | cons x xs ih =>
    have fill : (f s).fillLine x = f (s.fillLine x) := by
      simp only [State.fillLine, State.isCached, beside.cfg, beside.mem, beside.cache, beside.setCache]
      exact (apply_ite f _ _ _).symm
    rw [State.fillLines, fill, ih, State.fillLines]

theorem BesidePath.flush (a n : Nat) : (f s).flush a n = f (s.flush a n) := by
  have set (t : State) : t.flush a n = if t.cfg.cacheMode = .coherent then t else
      (t.setMem (writeBack (maintained t.cfg a n) t.mem t.cache)).setCache
        (t.cache.map fun l => if maintained t.cfg a n l then { l with dirty := false } else l) := rfl
  simp only [set, beside.cfg, beside.mem, beside.cache, beside.setMem, beside.setCache]
  exact (apply_ite f _ _ _).symm

theorem BesidePath.invalidate (a n : Nat) : (f s).invalidate a n = f (s.invalidate a n) := by
  simp only [State.invalidate, beside.cfg, beside.cache, beside.setCache]
  exact (apply_ite f _ _ _).symm

end

theorem State.afterLoad_poised (s : State) (is : List Item) (v : Value) (a : Addr) :
    (s.poised is v).afterLoad a = (s.afterLoad a).poised is v := by
  have fills := (besidePath_poised is v).fillLines s (s.uncachedBytes a)
  have bytes : (s.poised is v).uncachedBytes a = s.uncachedBytes a := rfl
  have draw : (s.poised is v).choice 0 = s.choice 0 := rfl
  simp only [State.afterLoad, bytes, fills, draw, State.poised_sb]
  split_ifs <;> rfl

/-! What none of the memory path's operations changes. -/

/-- `t` is `s` but for memory, the cache and the draws made. -/
def PathOnly (s t : State) : Prop := ∃ m ls ds n, t = { s with mem := m, cache := ls, draws := ds, drawNo := n }

theorem PathOnly.refl (s : State) : PathOnly s s := ⟨_, _, _, _, rfl⟩

theorem PathOnly.trans {s t u : State} (h : PathOnly s t) (k : PathOnly t u) : PathOnly s u := by
  obtain ⟨_, _, _, _, rfl⟩ := h
  obtain ⟨_, _, _, _, rfl⟩ := k
  exact ⟨_, _, _, _, rfl⟩

section
variable {s t : State} (h : PathOnly s t)
include h

theorem PathOnly.parts : t.parts = s.parts := by
  obtain ⟨_, _, _, _, rfl⟩ := h
  rfl

theorem PathOnly.cfg : t.cfg = s.cfg := congrArg Parts.cfg h.parts
theorem PathOnly.sb : t.sb = s.sb := congrArg Parts.sb h.parts
theorem PathOnly.ch : t.ch = s.ch := congrArg Parts.ch h.parts
theorem PathOnly.gie : t.gie = s.gie := congrArg Parts.gie h.parts
theorem PathOnly.lines : t.lines = s.lines := congrArg Parts.lines h.parts

theorem PathOnly.irqs : t.irqs = s.irqs := by
  obtain ⟨_, _, _, _, rfl⟩ := h
  rfl

theorem PathOnly.bodies : t.bodies = s.bodies := by
  obtain ⟨_, _, _, _, rfl⟩ := h
  rfl

end

theorem pathOnly_afterLoad (s : State) (a : Addr) : PathOnly s (s.afterLoad a) := by
  obtain ⟨ls, ds, n, h⟩ := s.afterLoad_eq a
  exact ⟨_, ls, ds, n, h⟩

theorem pathOnly_drainBytes (s : State) (alloc : Bool) (x : Nat) (bs : List Byte) :
    PathOnly s (s.drainBytes alloc x bs) := by
  obtain ⟨m, ls, h⟩ := s.drainBytes_eq alloc x bs
  exact ⟨m, ls, _, _, h⟩

theorem pathOnly_flush (s : State) (a n : Nat) : PathOnly s (s.flush a n) := by
  obtain ⟨m, ls, h⟩ := s.flush_eq a n
  exact ⟨m, ls, _, _, h⟩

theorem pathOnly_invalidate (s : State) (a n : Nat) : PathOnly s (s.invalidate a n) := by
  obtain ⟨ls, h⟩ := s.invalidate_eq a n
  exact ⟨_, ls, _, _, h⟩

/-- The stores of a buffer drained in their order, no line being filled (20_memory.md R107). -/
def State.drainAll (s : State) : List SbEntry → State
  | [] => s
  | e :: es => (s.drainBytes false e.addr.toNat (wordBytes e.val)).drainAll es

theorem pathOnly_drainAll (s : State) (es : List SbEntry) : PathOnly s (s.drainAll es) := by
  induction es generalizing s with
  | nil => exact .refl s
  | cons e es ih => exact (pathOnly_drainBytes s _ _ _).trans (ih _)

/-- The draw 0 names the word of the oldest entry. -/
theorem State.drainWord_oldestWord {s : State} {e : SbEntry} {es : List SbEntry} (h : s.sb = e :: es) :
    s.drainWord 0 = e.addr := by
  rw [State.drainWord, Nat.zero_mod, h]
  rfl

/-! The operations. -/

theorem exec_st32 {a : Addr} (aligned : a.toNat % 4 = 0) (x : Word) (s : State) :
    exec (.st32 a x) s = .next ((s.buffer a x).answer .unit) := by
  simp only [exec, execSt32, (aligned4_iff a).2 aligned]
  rfl

section
variable {s : State} {is : List Item} {v : Value} (valid : paramsValid s.cfg = true)
include valid

theorem HostRuns.ld32 {a : Addr} (aligned : a.toNat % 4 = 0) (bus : busResp s.cfg a 4 false = .okay)
    (later : s.irqs = [] ∨ is ≠ []) :
    HostRuns (s.poised (.op (.ld32 a) :: is) v) ((s.afterLoad a).poised is (.word (s.loadWord a))) := by
  refine .op valid nofun nofun ?_ ((pathOnly_afterLoad s a).irqs ▸ later)
  rw [exec_ld32_accepted (s := s.poised is v) aligned bus, State.afterLoad_poised, State.answer_poised,
    State.poised_loadWord]

theorem HostRuns.st32 {a : Addr} (aligned : a.toNat % 4 = 0) (x : Word) (later : s.irqs = [] ∨ is ≠ []) :
    HostRuns (s.poised (.op (.st32 a x) :: is) v) ((s.withSb (s.sb ++ [⟨a, x⟩])).poised is .unit) := by
  refine .op valid nofun nofun ?_ later
  rw [exec_st32 aligned]
  exact congrArg _ (State.answer_poised (s.buffer a _) is v .unit)

/-- Populate's store of CH[c].app0 (43_ring.md R301). -/
theorem HostRuns.app0Store {a : Addr} (aligned : a.toNat % 4 = 0) (c : Chan) (later : s.irqs = [] ∨ is ≠ []) :
    HostRuns (s.poised (.app0Store c a :: is) v)
      ((s.withSb (s.sb ++ [⟨a, (s.ch.get c).app0⟩])).poised is .unit) := by
  refine .item valid nofun ((exec_st32 aligned _ _).trans ?_) later
  exact congrArg _ (State.answer_poised (s.buffer a _) is v .unit)

theorem HostRuns.dcFlush (a : Addr) (n : Nat) (later : s.irqs = [] ∨ is ≠ []) :
    HostRuns (s.poised (.op (.dcFlush a n) :: is) v) ((s.flush a.toNat n).poised is .unit) := by
  refine .op valid nofun nofun ?_ ((pathOnly_flush s _ _).irqs ▸ later)
  rw [exec_dcFlush_of_flush ((besidePath_poised is v).flush s a.toNat n), State.answer_poised]

theorem HostRuns.dcInval (a : Addr) (n : Nat) (later : s.irqs = [] ∨ is ≠ []) :
    HostRuns (s.poised (.op (.dcInval a n) :: is) v) ((s.invalidate a.toNat n).poised is .unit) := by
  refine .op valid nofun nofun ?_ ((pathOnly_invalidate s _ _).irqs ▸ later)
  rw [exec_dcInval_of_invalidate ((besidePath_poised is v).invalidate s a.toNat n), State.answer_poised]

/-- Stores in a row join the buffer (R221). -/
theorem HostRuns.stores {es : List SbEntry} (aligned : ∀ e ∈ es, e.addr.toNat % 4 = 0) (more : is ≠ []) :
    ∃ w, HostRuns (s.poised (es.map (fun e => .op (.st32 e.addr e.val)) ++ is) v)
      ((s.withSb (s.sb ++ es)).poised is w) := by
  induction es generalizing s v with
  | nil =>
    rw [List.append_nil]
    exact ⟨v, .refl _⟩
  | cons e es ih =>
    have first := HostRuns.st32 (v := v) valid (aligned e (by simp)) e.val
      (is := es.map (fun e => .op (.st32 e.addr e.val)) ++ is) (.inr (by simp [more]))
    obtain ⟨w, run⟩ := ih (s := s.withSb (s.sb ++ [e])) (v := .unit) valid fun x hx => aligned x (by simp [hx])
    rw [State.withSb_sb, List.append_assoc] at run
    exact ⟨w, first.trans run⟩

/-- A fence in a quiet run: the pending stores drain in their order (R222, 20_memory.md R107). -/
theorem QuietRuns.fence {es : List SbEntry} (bus : ∀ e ∈ es, busResp s.cfg e.addr 4 true = .okay)
    (later : s.irqs = [] ∨ is ≠ []) :
    QuietRuns ((s.withSb es).poised (.op .fence :: is) v) (((s.drainAll es).withSb []).poised is .unit) := by
  induction es generalizing s with
  | nil =>
    refine (HostRuns.of_step (waitsAtFence_of_sb rfl) ?_).quiet
    rw [stepAs_op (s := (s.withSb []).poised _ v) valid (State.code_poised ..) (by decide), State.setCode_poised,
      exec_fence_empty rfl, State.answer_poised]
    exact congrArg _ (State.settle_poised (s.withSb []) is _ later)
  | cons e es ih =>
    let waiting := (s.withSb (e :: es)).poised (.op .fence :: is) v
    let drained := s.drainBytes false e.addr.toNat (wordBytes e.val)
    have only : PathOnly s drained := pathOnly_drainBytes s _ _ _
    have taken : exec .envDrain (waiting.withDraw 0) = .next ((drained.withSb es).poised (.op .fence :: is) v) := by
      rw [exec_envDrain_accepted (s := waiting.withDraw 0) (pre := []) (post := es) (e := e) (alloc := false) rfl (by simp)
        (State.drainWord_oldestWord rfl) (bus e (by simp)) (by simp [State.choice_withDraw, drawnBool])]
      have commuted := State.drainBytes_withDraw ((s.withSb es).poised (.op .fence :: is) v) 0 false e.addr.toNat
        (wordBytes e.val)
      rw [(besidePath_poised (.op .fence :: is) v).drainBytes, (besidePath_withSb es).drainBytes] at commuted
      exact congrArg _ ((congrArg (State.spend · 1) commuted).trans (State.spend_withDraw _ 0))
    have step : quietStep waiting = .next ((drained.withSb es).poised (.op .fence :: is) v) := by
      rw [quietStep, if_pos (by simp [waiting, State.waitsAtFence])]
      exact (stepAs_auto (s := waiting.withDraw 0) valid rfl rfl).trans taken
    have rest := ih (s := drained) (only.cfg ▸ valid) (only.cfg ▸ fun x hx => bus x (by simp [hx])) (only.irqs ▸ later)
    exact .trans ⟨1, quietRun_succ step 0⟩ rest

end

end Sys2Proof.Machine
end

section
/-! Where the ring's descriptors lie among the addresses and the cache lines (00_scope.md R9, R10, R13; 20_memory.md
R124, R125). -/

namespace Sys2Proof.Machine

/-! Spans of whole lines. -/

/-- [a, a+n) lies in the address space and, where there is a cache, is a span of whole lines. -/
structure WholeLines (p : Params) (a n : Nat) : Prop where
  fits : a + n ≤ 2 ^ 64
  lines : p.cacheMode = .noncoherent → p.line ∣ a ∧ p.line ∣ n

theorem mem_line_iff {p : Params} (pos : 0 < p.line) {b x : Nat} (hb : p.line ∣ b) :
    b ≤ x ∧ x < b + p.line ↔ lineBase p x = b := by
  obtain ⟨k, rfl⟩ := hb
  have lower := lineBase_le p x
  have upper := offset_lt pos x
  unfold lineBase at *
  constructor
  · rintro ⟨h1, h2⟩
    have : x / p.line = k := by
      rw [Nat.div_eq_iff pos]
      constructor
      · rw [Nat.mul_comm]; exact h1
      · rw [Nat.mul_comm k]; omega
    rw [this, Nat.mul_comm]
  · intro h
    omega

section
variable {p : Params} {a n : Nat} (whole : WholeLines p a n)
include whole

/-- A byte of a span of whole lines has its line in it. -/
theorem WholeLines.inSpan_lineBase (pos : 0 < p.line) (nc : p.cacheMode = .noncoherent) (x : Nat) :
    InSpan a n (lineBase p x) ↔ InSpan a n x := by
  obtain ⟨start, size⟩ := whole.lines nc
  have lower := lineBase_le p x
  have upper := offset_lt pos x
  have multiple : p.line ∣ lineBase p x := Nat.dvd_mul_left _ _
  unfold InSpan
  constructor
  · rintro ⟨h1, h2⟩
    have := multiple_add_le multiple (Nat.dvd_add start size) h2
    omega
  · rintro ⟨h1, h2⟩
    refine ⟨?_, by omega⟩
    by_contra before
    have := multiple_add_le multiple start (by omega)
    omega

/-- DC_FLUSH and DC_INVAL of the span concern the lines that begin in it. -/
theorem WholeLines.lineMeets_iff (pos : 0 < p.line) (nc : p.cacheMode = .noncoherent) {l : CacheLine}
    (legal : lineLegal p l = true) : lineMeets p l.base a n = true ↔ InSpan a n l.base := by
  obtain ⟨start, -⟩ := whole.lines nc
  have fits := whole.fits
  obtain ⟨onLine, below, -⟩ := lineLegal_iff.1 legal
  simp only [lineMeets, InSpan, Bool.and_eq_true, Bool.or_eq_true, bne_iff_ne, decide_eq_true_eq]
  constructor
  · rintro ⟨-, ⟨before, after⟩ | wraps⟩
    · refine ⟨?_, before⟩
      by_contra inside
      have := multiple_add_le (Nat.dvd_of_mod_eq_zero onLine) start (by omega)
      omega
    · omega
  · rintro ⟨h1, h2⟩
    exact ⟨by omega, .inl ⟨h2, by omega⟩⟩

theorem WholeLines.maintained_iff (pos : 0 < p.line) (nc : p.cacheMode = .noncoherent) {l : CacheLine}
    (legal : lineLegal p l = true) : maintained p a n l = true ↔ InSpan a n l.base ∧ uncachedRing p l.base = false := by
  rw [maintained, Bool.and_eq_true, whole.lineMeets_iff pos nc legal, Bool.not_eq_true']

end

/-! The rings. -/

/-- What the constraints on the parameters say of a ring (R9, R10). -/
theorem ring_bounds {p : Params} (valid : paramsValid p = true) (c : Chan) :
    1 ≤ p.cap.get c ∧ 64 ∣ (p.ring.get c).toNat ∧ (p.ring.get c).toNat + 64 * p.cap.get c ≤ 2 ^ 64 := by
  have ringValid : ringValid p c = true ∧ p.addrBits ≤ 64 := by
    simp only [paramsValid, Bool.and_eq_true, decide_eq_true_eq] at valid
    cases c <;> tauto
  obtain ⟨ringValid, bits⟩ := ringValid
  simp only [Machine.ringValid, Bool.and_eq_true, decide_eq_true_eq, beq_iff_eq] at ringValid
  obtain ⟨⟨nonempty, aligned⟩, fits⟩ := ringValid
  have fits : (p.ring.get c).toNat + 64 * p.cap.get c ≤ 2 ^ p.addrBits := fits
  exact ⟨nonempty, Nat.dvd_of_mod_eq_zero aligned, fits.trans (Nat.pow_le_pow_right (by decide) bits)⟩

theorem line_dvd_stride {p : Params} (valid : paramsValid p = true) (nc : p.cacheMode = .noncoherent) :
    p.line ∣ 64 := by
  simp only [paramsValid, Bool.and_eq_true, Bool.or_eq_true, beq_iff_eq] at valid
  have : p.cacheMode = .coherent ∨ 64 % p.line = 0 := by tauto
  exact Nat.dvd_of_mod_eq_zero (this.resolve_left (by simp [nc]))

theorem inRingOf_iff {p : Params} {c : Chan} {x : Nat} :
    inRingOf p c x = true ↔ InSpan (p.ring.get c).toNat (64 * p.cap.get c) x := by
  simp only [inRingOf, Bool.and_eq_true, decide_eq_true_eq]
  rfl

theorem wholeLines_ring {p : Params} (valid : paramsValid p = true) (c : Chan) :
    WholeLines p (p.ring.get c).toNat (64 * p.cap.get c) := by
  obtain ⟨-, aligned, fits⟩ := ring_bounds valid c
  refine ⟨fits, fun nc => ?_⟩
  have stride := line_dvd_stride valid nc
  exact ⟨stride.trans aligned, stride.mul_right _⟩

/-- The descriptors of a ring lie one after the other and do not wrap (R13). -/
theorem descAddr_toNat {p : Params} (valid : paramsValid p = true) {c : Chan} {i : Nat} (hi : i < p.cap.get c) :
    (descAddr p c i).toNat = (p.ring.get c).toNat + 64 * i := by
  obtain ⟨-, -, fits⟩ := ring_bounds valid c
  have small : 64 * i < 2 ^ 64 := by omega
  rw [descAddr, BitVec.toNat_add, BitVec.toNat_ofNat, descStride, Nat.mod_eq_of_lt small, Nat.mod_eq_of_lt (by omega)]

/-- A descriptor of a ring: aligned, of whole lines, in the ring. -/
structure IsSlot (p : Params) (c : Chan) (d : Addr) : Prop where
  aligned : 64 ∣ d.toNat
  whole : WholeLines p d.toNat 64
  inRing : ∀ x, InSpan d.toNat 64 x → inRingOf p c x = true

theorem isSlot_descAddr {p : Params} (valid : paramsValid p = true) {c : Chan} {i : Nat} (hi : i < p.cap.get c) :
    IsSlot p c (descAddr p c i) := by
  obtain ⟨-, aligned, fits⟩ := ring_bounds valid c
  have place := descAddr_toNat valid hi
  have multiple : 64 ∣ (descAddr p c i).toNat := place ▸ Nat.dvd_add aligned (Nat.dvd_mul_right _ _)
  refine ⟨multiple, ⟨by omega, fun nc => ?_⟩, fun x hx => inRingOf_iff.2 ?_⟩
  · have stride := line_dvd_stride valid nc
    exact ⟨stride.trans multiple, stride⟩
  · unfold InSpan at hx ⊢
    omega

theorem IsSlot.toNat_add {p : Params} {c : Chan} {d : Addr} (slot : IsSlot p c d) {k : Nat} (hk : k < 64) :
    (d + BitVec.ofNat 64 k).toNat = d.toNat + k := by
  have := slot.whole.fits
  rw [BitVec.toNat_add, BitVec.toNat_ofNat, Nat.mod_eq_of_lt (by omega : k < 2 ^ 64), Nat.mod_eq_of_lt (by omega)]

/-- Different descriptors of a ring have no byte in common. -/
theorem descAddr_apart {p : Params} (valid : paramsValid p = true) {c : Chan} {i j : Nat} (hi : i < p.cap.get c)
    (hj : j < p.cap.get c) (h : i ≠ j) {x : Nat} (hx : InSpan (descAddr p c i).toNat 64 x) :
    ¬ InSpan (descAddr p c j).toNat 64 x := by
  unfold InSpan at hx ⊢
  rw [descAddr_toNat valid hi] at hx
  rw [descAddr_toNat valid hj]
  omega

/-! Cacheable addresses go by lines (R125). -/

theorem inRingOf_lineBase {p : Params} (valid : paramsValid p = true) (nc : p.cacheMode = .noncoherent) (c : Chan)
    (x : Nat) : inRingOf p c (lineBase p x) = inRingOf p c x := by
  rw [Bool.eq_iff_iff, inRingOf_iff, inRingOf_iff]
  exact (wholeLines_ring valid c).inSpan_lineBase (line_pos valid) nc x

theorem uncachedRing_lineBase {p : Params} (valid : paramsValid p = true) (nc : p.cacheMode = .noncoherent) (x : Nat) :
    uncachedRing p (lineBase p x) = uncachedRing p x := by
  simp only [uncachedRing, inRing, inRingOf_lineBase valid nc]

theorem inRing_of_inRingOf {p : Params} {c : Chan} {x : Nat} (h : inRingOf p c x = true) : inRing p x = true := by
  cases c <;> simp [inRing, h]

/-- The host reaches the addresses of a ring without the cache. -/
def DirectRings (p : Params) : Prop := p.cacheMode = .coherent ∨ p.descUncached = true

theorem cacheable_of_direct {p : Params} (direct : DirectRings p) {c : Chan} {x : Nat} (h : inRingOf p c x = true) :
    cacheable p x = false := by
  rcases direct with coherent | uncached
  · exact cacheable_of_coherent coherent x
  · simp [cacheable, uncachedRing, uncached, inRing_of_inRingOf h]

end Sys2Proof.Machine
end

section
/-! What loads, pending stores, DC_FLUSH and DC_INVAL do to memory, to the host's view and to the cache's lines
(20_memory.md R107, R108, R124, R125; 41_host_primitives.md R220 to R224). -/

namespace Sys2Proof.Machine

/-- What the rules of the memory path need of a state. -/
structure PathSound (s : State) : Prop where
  valid : paramsValid s.cfg = true
  memory : s.mem.wf = true
  cache : cacheLegal s.cfg s.cache = true

section
variable {s : State} (sound : PathSound s)
include sound

theorem PathSound.pos : 0 < s.cfg.line := line_pos sound.valid

theorem PathSound.rise : basesRise s.cache = true := (cacheLegal_iff.1 sound.cache).2.1

theorem PathSound.legal {l : CacheLine} (hl : l ∈ s.cache) : lineLegal s.cfg l = true :=
  (cacheLegal_iff.1 sound.cache).2.2 l hl

theorem PathSound.no_cache (coherent : s.cfg.cacheMode = .coherent) : s.cache = [] :=
  (cacheLegal_iff.1 sound.cache).1.resolve_left (by simp [coherent])

theorem PathSound.line_dvd {l : CacheLine} (hl : l ∈ s.cache) : s.cfg.line ∣ l.base :=
  Nat.dvd_of_mod_eq_zero (lineLegal_iff.1 (sound.legal hl)).1

/-- A byte's line, if it is cached, is the one whose bytes it is among. -/
theorem PathSound.line_of {l : CacheLine} (hl : l ∈ s.cache) {x : Nat} :
    l.base ≤ x ∧ x < l.base + s.cfg.line ↔ lineBase s.cfg x = l.base :=
  mem_line_iff sound.pos (sound.line_dvd hl)

theorem PathSound.find {l : CacheLine} (hl : l ∈ s.cache) {x : Nat} (h : lineBase s.cfg x = l.base) :
    cacheFind s.cache (lineBase s.cfg x) = some l := by
  rw [h, cacheFind_of_mem sound.rise hl]

/-- Past the end of the address space there is nothing. -/
theorem PathSound.read_beyond {x : Nat} (h : 2 ^ 64 ≤ x) : s.mem.read x = Memory.blank := by
  have wf := sound.memory
  unfold Memory.wf at wf
  generalize s.mem = m at wf ⊢
  generalize 0 = lo at wf
  induction m generalizing lo with
  | nil => rfl
  | cons y m ih =>
    obtain ⟨a, b⟩ := y
    obtain ⟨-, below, -, tail⟩ := Memory.wfFrom_cons.1 wf
    rw [Memory.read, if_neg (by omega)]
    exact ih _ tail

theorem PathSound.hostByte_beyond {x : Nat} (h : 2 ^ 64 ≤ x) : s.hostByte x = Memory.blank := by
  have noLine : cacheFind s.cache (lineBase s.cfg x) = none := by
    refine cacheFind_eq_none.2 fun l hl same => ?_
    have inside := (sound.line_of hl).2 same.symm
    have := lineLegal_fits sound.valid (sound.legal hl)
    omega
  simp only [State.hostByte, noLine, sound.read_beyond h, ite_self]

end

/-- Two states that show the host the same bytes below 2^64 show it the same bytes. -/
theorem hostByte_eq_of_below {s t : State} (hs : PathSound s) (ht : PathSound t) {x : Nat}
    (below : x < 2 ^ 64 → t.hostByte x = s.hostByte x) : t.hostByte x = s.hostByte x := by
  by_cases h : x < 2 ^ 64
  · exact below h
  · rw [hs.hostByte_beyond (by omega), ht.hostByte_beyond (by omega)]

theorem hostWord_congr {s t : State} {a : Addr}
    (h : ∀ k, k < 4 → t.hostByte ((a.toNat + k) % 2 ^ 64) = s.hostByte ((a.toNat + k) % 2 ^ 64)) :
    t.hostWord a = s.hostWord a := by
  have h0 := h 0 (by decide)
  rw [Nat.add_zero, Nat.mod_eq_of_lt a.isLt] at h0
  unfold State.hostWord
  rw [h0, h 1 (by decide), h 2 (by decide), h 3 (by decide)]

theorem readWord_congr {m n : Memory} {a : Addr}
    (h : ∀ k, k < 4 → n.read ((a.toNat + k) % 2 ^ 64) = m.read ((a.toNat + k) % 2 ^ 64)) :
    n.readWord a = m.readWord a := by
  have h0 := h 0 (by decide)
  rw [Nat.add_zero, Nat.mod_eq_of_lt a.isLt] at h0
  unfold Memory.readWord
  rw [h0, h 1 (by decide), h 2 (by decide), h 3 (by decide)]

/-- A word whose bytes are in memory as the host sees them is so too. -/
theorem readWord_eq_hostWord {s : State} {a : Addr}
    (h : ∀ k, k < 4 → s.mem.read ((a.toNat + k) % 2 ^ 64) = s.hostByte ((a.toNat + k) % 2 ^ 64)) :
    s.mem.readWord a = s.hostWord a := by
  have h0 := h 0 (by decide)
  rw [Nat.add_zero, Nat.mod_eq_of_lt a.isLt] at h0
  unfold State.hostWord Memory.readWord
  rw [h0, h 1 (by decide), h 2 (by decide), h 3 (by decide)]

theorem loadWord_of_empty {s : State} (h : s.sb = []) (a : Addr) : s.loadWord a = s.hostWord a :=
  State.loadWord_below (by simp [h])

/-! Loads (R108). -/

theorem PathSound.afterLoad {s : State} (sound : PathSound s) (a : Addr) : PathSound (s.afterLoad a) := by
  have only := pathOnly_afterLoad s a
  obtain ⟨ls, ds, n, h⟩ := s.afterLoad_eq a
  exact ⟨only.cfg ▸ sound.valid, by rw [h]; exact sound.memory,
    by rw [only.cfg]; exact State.afterLoad_cacheLegal sound.cache a⟩

@[simp] theorem State.afterLoad_mem (s : State) (a : Addr) : (s.afterLoad a).mem = s.mem := by
  obtain ⟨ls, ds, n, h⟩ := s.afterLoad_eq a
  rw [h]

/-- A fill copies memory: the line of an address stays what it was. -/
theorem State.hostByte_fillLine {s : State} (sound : PathSound s) (x : Nat) {y : Nat} (hy : y < 2 ^ 64) :
    (s.fillLine x).hostByte y = s.hostByte y := by
  by_cases h : s.Fillable x
  · rw [State.fillLine_uncached h.1 h.2]
    cases hc : cacheable s.cfg y with
    | false => rw [State.hostByte_uncacheable hc, State.hostByte_uncacheable (by exact hc), State.setCache_mem]
    | true =>
      have put := State.lineAt_put s (l := cleanLine s.cfg s.mem (lineBase s.cfg x)) rfl y
      have line : (if lineBase s.cfg y = lineBase s.cfg x then cleanLine s.cfg s.mem (lineBase s.cfg x)
          else s.lineAt y) = s.lineAt y := by
        split
        · rename_i same
          rw [State.lineAt, same, cacheFind_eq_none.2 h.2, Option.getD_none]
        · rfl
      rw [State.hostByte_cacheable sound.pos hy hc, State.hostByte_cacheable (by exact sound.pos) hy (by exact hc), put,
        line, State.setCache_cfg]
  · rw [State.fillLine_of_not_fillable h]

theorem State.hostByte_fillLines {s : State} (sound : PathSound s) {xs : List Nat} (hx : ∀ x ∈ xs, x < 2 ^ 64)
    {y : Nat} (hy : y < 2 ^ 64) : (s.fillLines xs).hostByte y = s.hostByte y := by
  induction xs generalizing s with
  | nil => rfl
  | cons x xs ih =>
    have filled : PathSound (s.fillLine x) := by
      refine ⟨by rw [State.fillLine_cfg]; exact sound.valid, by rw [State.fillLine_mem]; exact sound.memory, ?_⟩
      rw [State.fillLine_cfg]
      exact State.fillLine_cacheLegal sound.cache (hx x (by simp))
    rw [State.fillLines, ih filled fun z hz => hx z (by simp [hz]), State.hostByte_fillLine sound x hy]

/-- A load changes nothing that the host sees. -/
theorem State.hostByte_afterLoad {s : State} (sound : PathSound s) (a : Addr) (x : Nat) :
    (s.afterLoad a).hostByte x = s.hostByte x := by
  refine hostByte_eq_of_below sound (sound.afterLoad a) fun hx => ?_
  unfold State.afterLoad
  split
  · split
    · exact State.hostByte_fillLines sound (fun y hy => State.uncachedBytes_lt hy) hx
    · rfl
  · rfl

/-- The bytes of the word at `a` are in [b, b+n). -/
def WordIn (b n : Nat) (a : Addr) : Prop := b ≤ a.toNat ∧ a.toNat + 4 ≤ b + n

/-- A load allocates lines of its word's bytes, at most. -/
theorem State.mem_afterLoad {s : State} (sound : PathSound s) {b n : Nat} (whole : WholeLines s.cfg b n) {a : Addr}
    (inside : WordIn b n a) {l : CacheLine} (other : ¬ InSpan b n l.base ∨ uncachedRing s.cfg l.base = true) :
    l ∈ (s.afterLoad a).cache ↔ l ∈ s.cache := by
  rcases s.afterLoad_cache a with same | ⟨-, filled⟩
  · rw [same]
  rw [filled, State.mem_fillLines]
  refine or_iff_left ?_
  rintro ⟨x, hx, ⟨cached, -⟩, rfl⟩
  obtain ⟨⟨k, hk, rfl⟩, -⟩ := State.mem_uncachedBytes.1 hx
  have nc := cacheable_noncoherent cached
  have fits := whole.fits
  obtain ⟨lower, upper⟩ := inside
  have place : (a.toNat + k) % 2 ^ 64 = a.toNat + k := Nat.mod_eq_of_lt (by omega)
  rw [place] at cached other
  rcases other with outside | uncached
  · refine outside ((whole.inSpan_lineBase sound.pos nc _).2 ?_)
    unfold InSpan
    omega
  · rw [cacheable_of_noncoherent nc] at cached
    have uncached : uncachedRing s.cfg (lineBase s.cfg (a.toNat + k)) = true := uncached
    rw [uncachedRing_lineBase sound.valid nc] at uncached
    simp [uncached] at cached

/-- A load past the cache changes nothing at all. -/
theorem State.afterLoad_direct {s : State} {a : Addr} (fits : a.toNat + 4 ≤ 2 ^ 64)
    (direct : ∀ x, InSpan a.toNat 4 x → cacheable s.cfg x = false) : s.afterLoad a = s := by
  have none_cached : s.uncachedBytes a = [] := by
    refine List.eq_nil_iff_forall_not_mem.2 fun x hx => ?_
    obtain ⟨⟨k, hk, rfl⟩, cached, -⟩ := State.mem_uncachedBytes.1 hx
    rw [Nat.mod_eq_of_lt (by omega), direct _ (by unfold InSpan; omega)] at cached
    cases cached
  simp [State.afterLoad, none_cached]

/-! Draining a store (R107). -/

/-- Where the byte is cacheable and its line cached, the line is dirty: a flush of the line puts the byte in memory. -/
def State.LineDirty (s : State) (x : Nat) : Prop :=
  cacheable s.cfg x = true → ∀ l ∈ s.cache, l.base = lineBase s.cfg x → l.dirty = true

/-- What draining bytes at the addresses `at_` leaves. -/
structure Drained (at_ : Nat → Prop) (s t : State) : Prop where
  only : PathOnly s t
  sound : PathSound t
  mem : ∀ x, ¬ at_ x → t.mem.read x = s.mem.read x
  lines : ∀ l, (∀ x, at_ x → cacheable s.cfg x = true → l.base ≠ lineBase s.cfg x) → (l ∈ t.cache ↔ l ∈ s.cache)
  direct : (∀ x, at_ x → cacheable s.cfg x = false) → t.cache = s.cache
  dirty : ∀ x, s.LineDirty x → t.LineDirty x

theorem Drained.refl (at_ : Nat → Prop) {s : State} (sound : PathSound s) : Drained at_ s s :=
  ⟨.refl s, sound, fun _ _ => rfl, fun _ _ => Iff.rfl, fun _ => rfl, fun _ h => h⟩

theorem Drained.trans {at_ : Nat → Prop} {s t u : State} (h : Drained at_ s t) (k : Drained at_ t u) :
    Drained at_ s u := by
  have cfg := h.only.cfg
  exact ⟨h.only.trans k.only, k.sound, fun x hx => (k.mem x hx).trans (h.mem x hx),
    fun l hl => (k.lines l (by rw [cfg]; exact hl)).trans (h.lines l hl),
    fun hx => (k.direct (by rw [cfg]; exact hx)).trans (h.direct hx), fun x hx => k.dirty x (h.dirty x hx)⟩

theorem pathOnly_drainByte (s : State) (alloc : Bool) (x : Nat) (b : Byte) : PathOnly s (s.drainByte alloc x b) := by
  rcases s.drainByte_cases alloc x b with ⟨h, -⟩ | ⟨h, -⟩ <;> rw [h]
  · exact ⟨_, s.cache, s.draws, s.drawNo, rfl⟩
  · exact ⟨s.mem, _, s.draws, s.drawNo, rfl⟩

theorem drained_drainByte {s : State} (sound : PathSound s) {at_ : Nat → Prop} (alloc : Bool) {x : Nat} (hx : x < 2 ^ 64)
    (here : at_ x) (b : Byte) :
    Drained at_ s (s.drainByte alloc x b) ∧ (s.drainByte alloc x b).LineDirty x := by
  have only := pathOnly_drainByte s alloc x b
  have after : PathSound (s.drainByte alloc x b) :=
    ⟨by rw [State.drainByte_cfg]; exact sound.valid, State.drainByte_wf sound.memory alloc hx b,
      by rw [State.drainByte_cfg]; exact State.drainByte_cacheLegal sound.cache alloc hx b⟩
  rcases s.drainByte_cases alloc x b with ⟨h, uncached⟩ | ⟨h, cached⟩ <;> rw [h] at only after ⊢
  · refine ⟨⟨only, after, fun y hy => ?_, fun _ _ => Iff.rfl, fun _ => rfl, fun _ h => h⟩, fun hc l hl hb => ?_⟩
    · rw [State.setMem_mem, Memory.read_write sound.memory, if_neg (by rintro rfl; exact hy here)]
    · exact absurd hb (cacheFind_eq_none.1 (uncached hc) l hl)
  · have put (k : CacheLine) : k ∈ cachePut s.cache (dirtied (s.lineAt x) x b) ↔
        (k ∈ s.cache ∧ k.base ≠ lineBase s.cfg x) ∨ k = dirtied (s.lineAt x) x b := by
      rw [mem_cachePut sound.rise, show (dirtied (s.lineAt x) x b).base = lineBase s.cfg x from s.lineAt_base x]
    refine ⟨⟨only, after, fun _ _ => rfl, fun l hl => ?_, fun hx => ?_, fun y hy hc l hl hb => ?_⟩, fun hc l hl hb => ?_⟩
    · have apart := hl x here cached
      refine (put l).trans ⟨fun h => h.elim And.left ?_, fun h => .inl ⟨h, apart⟩⟩
      rintro rfl
      exact absurd (s.lineAt_base x) apart
    · rw [hx x here] at cached
      cases cached
    · rcases (put l).1 hl with ⟨old, -⟩ | rfl
      · exact hy hc l old hb
      · rfl
    · rcases (put l).1 hl with ⟨-, other⟩ | rfl
      · exact absurd hb other
      · rfl

theorem drained_drainBytes {s : State} (sound : PathSound s) {at_ : Nat → Prop} (alloc : Bool) {x : Nat}
    {bs : List Byte} (fits : x + bs.length ≤ 2 ^ 64) (here : ∀ y, InSpan x bs.length y → at_ y) :
    Drained at_ s (s.drainBytes alloc x bs) ∧
      ∀ y, InSpan x bs.length y → (s.drainBytes alloc x bs).LineDirty y := by
  induction bs generalizing s x with
  | nil => exact ⟨.refl at_ sound, fun y ⟨h1, h2⟩ => absurd h2 (by simp; omega)⟩
  | cons b bs ih =>
    rw [List.length_cons] at fits here ⊢
    have place : x % 2 ^ 64 = x := Nat.mod_eq_of_lt (by omega)
    obtain ⟨first, dirty⟩ := drained_drainByte sound alloc (by omega) (here x ⟨le_rfl, by omega⟩) b
    obtain ⟨rest, dirty'⟩ := ih first.sound (x := x + 1) (by omega) fun y ⟨h1, h2⟩ => here y ⟨by omega, by omega⟩
    rw [State.drainBytes, place]
    refine ⟨first.trans rest, fun y ⟨h1, h2⟩ => ?_⟩
    by_cases h : y = x
    · exact h ▸ rest.dirty x dirty
    · exact dirty' y ⟨by omega, by omega⟩

/-- A byte of some store of a list. -/
def StoredByte (es : List SbEntry) (x : Nat) : Prop := ∃ e ∈ es, InSpan e.addr.toNat 4 x

theorem storedByte_cons {e : SbEntry} {es : List SbEntry} {x : Nat} :
    StoredByte (e :: es) x ↔ InSpan e.addr.toNat 4 x ∨ StoredByte es x := by
  simp [StoredByte]

/-- A list of stores drained: their bytes' lines are dirty if cached, and nothing else is touched. -/
theorem drained_drainAll {s : State} (sound : PathSound s) {at_ : Nat → Prop} {es : List SbEntry}
    (aligned : ∀ e ∈ es, e.addr.toNat % 4 = 0) (here : ∀ x, StoredByte es x → at_ x) :
    Drained at_ s (s.drainAll es) ∧ ∀ x, StoredByte es x → (s.drainAll es).LineDirty x := by
  induction es generalizing s with
  | nil => exact ⟨.refl at_ sound, fun x ⟨e, he, _⟩ => absurd he (by simp)⟩
  | cons e es ih =>
    obtain ⟨first, dirty⟩ := drained_drainBytes sound false (bs := wordBytes e.val) (word_fits (aligned e (by simp)))
      fun x hx => here x (storedByte_cons.2 (.inl hx))
    obtain ⟨rest, dirty'⟩ := ih first.sound (fun x hx => aligned x (by simp [hx]))
      fun x hx => here x (storedByte_cons.2 (.inr hx))
    exact ⟨first.trans rest, fun x hx => (storedByte_cons.1 hx).elim (fun h => rest.dirty x (dirty x h)) (dirty' x)⟩

/-- The host sees the stores drained, the youngest of each word (R108). -/
theorem State.hostWord_drainAll {s : State} (sound : PathSound s) {es : List SbEntry}
    (aligned : ∀ e ∈ es, e.addr.toNat % 4 = 0) {a : Addr} (ha : a.toNat % 4 = 0) :
    (s.drainAll es).hostWord a = (sbLookup es a).getD (s.hostWord a) := by
  induction es generalizing s with
  | nil => rfl
  | cons e es ih =>
    have he := aligned e (by simp)
    obtain ⟨first, -⟩ := drained_drainBytes sound (at_ := fun _ => True) false (bs := wordBytes e.val) (word_fits he)
      fun _ _ => trivial
    rw [State.drainAll, ih first.sound fun x hx => aligned x (by simp [hx]), sbLookup,
      State.hostWord_drainBytes sound.memory sound.cache sound.pos false ha he]
    cases sbLookup es a with
    | some v => rfl
    | none => simp only [eq_comm (a := a), Option.getD_none]; split <;> rfl

/-- It sees every other byte as before. -/
theorem State.hostByte_drainAll {s : State} (sound : PathSound s) {es : List SbEntry}
    (aligned : ∀ e ∈ es, e.addr.toNat % 4 = 0) {x : Nat} (other : ¬ StoredByte es x) :
    (s.drainAll es).hostByte x = s.hostByte x := by
  induction es generalizing s with
  | nil => rfl
  | cons e es ih =>
    have he := aligned e (by simp)
    obtain ⟨first, -⟩ := drained_drainBytes sound (at_ := fun _ => True) false (bs := wordBytes e.val) (word_fits he)
      fun _ _ => trivial
    obtain ⟨notHere, later⟩ := not_or.1 (mt storedByte_cons.2 other)
    rw [State.drainAll, ih first.sound (fun x hx => aligned x (by simp [hx])) later]
    refine hostByte_eq_of_below sound first.sound fun hx => ?_
    rw [State.hostByte_drainBytes sound.memory sound.cache sound.pos false (word_fits he) hx]
    split
    · refine List.getD_eq_default _ _ ?_
      unfold InSpan at notHere
      rw [wordBytes_length]
      omega
    · rfl

/-! DC_FLUSH of a span of whole lines (R223). -/

section
variable {s : State} (sound : PathSound s) {a n : Nat} (whole : WholeLines s.cfg a n)
include sound

theorem PathSound.flush (a n : Nat) : PathSound (s.flush a n) := by
  have only := pathOnly_flush s a n
  exact ⟨only.cfg ▸ sound.valid, State.flush_wf sound.memory a n,
    by rw [only.cfg]; exact State.flush_cacheLegal sound.cache a n⟩

include whole

/-- A byte is among those a flush writes back only where its line is cached, begins in the span and goes through the
cache. -/
theorem flush_writes {x : Nat} {l : CacheLine} (hl : l ∈ s.cache) (selected : maintained s.cfg a n l = true)
    (nc : s.cfg.cacheMode = .noncoherent) (hx : l.base ≤ x ∧ x < l.base + s.cfg.line) :
    InSpan a n x ∧ cacheable s.cfg x = true ∧ cacheFind s.cache (lineBase s.cfg x) = some l := by
  have base := (sound.line_of hl).1 hx
  obtain ⟨inside, cached⟩ := (whole.maintained_iff sound.pos nc (sound.legal hl)).1 selected
  rw [← base] at inside cached
  rw [uncachedRing_lineBase sound.valid nc] at cached
  refine ⟨(whole.inSpan_lineBase sound.pos nc x).1 inside, ?_, sound.find hl base⟩
  rw [cacheable_of_noncoherent nc, cached]
  rfl

/-- A byte that no cached line shows the host stays in memory. -/
theorem State.flush_mem {x : Nat}
    (other : ¬ InSpan a n x ∨ (cacheable s.cfg x = true → cacheFind s.cache (lineBase s.cfg x) = none)) :
    (s.flush a n).mem.read x = s.mem.read x := by
  cases nc : s.cfg.cacheMode with
  | coherent => rw [State.flush_coherent nc]
  | noncoherent =>
    rw [State.flush_noncoherent nc]
    refine read_writeBack_outside sound.valid (fun l hl => sound.legal hl) (fun l hl selected _ => ?_) sound.memory
    by_contra inside
    obtain ⟨inSpan, cached, found⟩ := flush_writes sound whole hl selected nc (x := x) (by omega)
    rcases other with outside | unseen
    · exact outside inSpan
    · rw [unseen cached] at found
      cases found

/-- The lines a flush leaves alone. -/
theorem State.mem_flush {l : CacheLine} (other : ¬ InSpan a n l.base ∨ uncachedRing s.cfg l.base = true) :
    l ∈ (s.flush a n).cache ↔ l ∈ s.cache := by
  cases nc : s.cfg.cacheMode with
  | coherent => rw [State.flush_coherent nc]
  | noncoherent =>
    have untouched (k : CacheLine) (hk : k ∈ s.cache) (same : k.base = l.base) : maintained s.cfg a n k = false := by
      refine Bool.eq_false_iff.2 fun selected => ?_
      obtain ⟨inside, cached⟩ := (whole.maintained_iff sound.pos nc (sound.legal hk)).1 selected
      rw [same] at inside cached
      simp_all
    rw [State.flush_noncoherent nc, List.mem_map]
    constructor
    · rintro ⟨k, hk, rfl⟩
      have same : k.base = (if maintained s.cfg a n k then { k with dirty := false } else k).base := by split <;> rfl
      rwa [untouched k hk same, if_neg Bool.false_ne_true]
    · exact fun hl => ⟨l, hl, by rw [untouched l hl rfl, if_neg Bool.false_ne_true]⟩

/-- A flush leaves no dirty line in its span. -/
theorem State.flush_clean {l : CacheLine} (hl : l ∈ (s.flush a n).cache) (inside : InSpan a n l.base)
    (cached : uncachedRing s.cfg l.base = false) : l.dirty = false := by
  cases nc : s.cfg.cacheMode with
  | coherent =>
    rw [State.flush_coherent nc, sound.no_cache nc] at hl
    cases hl
  | noncoherent =>
    rw [State.flush_noncoherent nc, List.mem_map] at hl
    obtain ⟨k, hk, rfl⟩ := hl
    have selected : maintained s.cfg a n k = true := by
      refine (whole.maintained_iff sound.pos nc (sound.legal hk)).2 ?_
      split at inside <;> split at cached <;> exact ⟨inside, cached⟩
    rw [if_pos selected]

/-- A flush changes nothing that the host sees: a line keeps its bytes, and memory takes bytes of lines alone. -/
theorem State.hostByte_flush (x : Nat) : (s.flush a n).hostByte x = s.hostByte x := by
  cases nc : s.cfg.cacheMode with
  | coherent => rw [State.flush_coherent nc]
  | noncoherent =>
    have cfg : (s.flush a n).cfg = s.cfg := (pathOnly_flush s a n).cfg
    have cache : (s.flush a n).cache =
        s.cache.map fun l => if maintained s.cfg a n l then { l with dirty := false } else l := by
      rw [State.flush_noncoherent nc]
    by_cases unseen : cacheable s.cfg x = true → cacheFind s.cache (lineBase s.cfg x) = none
    · have kept := State.flush_mem sound whole (.inr unseen)
      cases hc : cacheable s.cfg x with
      | false => rw [State.hostByte_uncacheable hc, State.hostByte_uncacheable (by rwa [cfg]), kept]
      | true =>
        have noLine : cacheFind (s.flush a n).cache (lineBase s.cfg x) = none := by
          refine cacheFind_eq_none.2 fun l hl => ?_
          rw [cache, List.mem_map] at hl
          obtain ⟨k, hk, rfl⟩ := hl
          have := cacheFind_eq_none.1 (unseen hc) k hk
          split <;> exact this
        simp only [State.hostByte, cfg, noLine, unseen hc, kept]
    · push Not at unseen
      obtain ⟨hc, found⟩ := unseen
      obtain ⟨l, found⟩ := Option.ne_none_iff_exists'.1 found
      obtain ⟨hl, base⟩ := cacheFind_some found
      have found' : cacheFind (s.flush a n).cache (lineBase s.cfg x) =
          some (if maintained s.cfg a n l then { l with dirty := false } else l) := by
        have mem : (if maintained s.cfg a n l then { l with dirty := false } else l) ∈ (s.flush a n).cache := by
          rw [cache]
          exact List.mem_map_of_mem hl
        have := cacheFind_of_mem (sound.flush a n).rise mem
        rwa [show (if maintained s.cfg a n l then { l with dirty := false } else l).base = lineBase s.cfg x by
          split <;> exact base] at this
      simp only [State.hostByte, cfg, found, found', hc, if_true]
      split <;> rfl

/-- A byte whose line would be dirty is in memory as the host sees it. -/
theorem State.flush_publishes {x : Nat} (inside : InSpan a n x) (dirty : s.LineDirty x) :
    (s.flush a n).mem.read x = s.hostByte x := by
  by_cases unseen : cacheable s.cfg x = true → cacheFind s.cache (lineBase s.cfg x) = none
  · rw [State.flush_mem sound whole (.inr unseen), State.hostByte]
    split
    · rename_i hc
      rw [unseen hc]
    · rfl
  · push Not at unseen
    obtain ⟨hc, found⟩ := unseen
    obtain ⟨l, found⟩ := Option.ne_none_iff_exists'.1 found
    obtain ⟨hl, base⟩ := cacheFind_some found
    have nc := cacheable_noncoherent hc
    obtain ⟨lower, upper⟩ := (sound.line_of hl).2 base.symm
    have selected : maintained s.cfg a n l = true := by
      refine (whole.maintained_iff sound.pos nc (sound.legal hl)).2 ?_
      rw [base, uncachedRing_lineBase sound.valid nc]
      refine ⟨(whole.inSpan_lineBase sound.pos nc x).2 inside, ?_⟩
      rw [cacheable_of_noncoherent nc] at hc
      simpa using hc
    have written := read_writeBack_inside sound.valid sound.rise (fun k hk => sound.legal hk) hl selected
      (dirty hc l hl base) (j := x - l.base) (by omega) sound.memory
    rw [Nat.add_sub_cancel' lower] at written
    rw [State.flush_noncoherent nc]
    simp only [State.hostByte, hc, found, if_true]
    exact written

/-- A flush of addresses past the cache changes nothing. -/
theorem State.flush_direct (direct : ∀ x, InSpan a n x → cacheable s.cfg x = false) :
    (s.flush a n).cache = s.cache ∧ ∀ x, (s.flush a n).mem.read x = s.mem.read x := by
  refine ⟨?_, fun x => State.flush_mem sound whole ?_⟩
  · cases nc : s.cfg.cacheMode with
    | coherent => rw [State.flush_coherent nc]
    | noncoherent =>
      rw [State.flush_noncoherent nc]
      refine (List.map_congr_left fun l hl => if_neg fun selected => ?_).trans (List.map_id s.cache)
      obtain ⟨inside, cached⟩ := (whole.maintained_iff sound.pos nc (sound.legal hl)).1 selected
      have := direct l.base inside
      rw [cacheable_of_noncoherent nc, cached] at this
      cases this
  · by_cases inside : InSpan a n x
    · exact .inr fun cached => absurd (direct x inside) (by simp [cached])
    · exact .inl inside

end

/-! DC_INVAL (R224). -/

section
variable {s : State} (sound : PathSound s) (a : Addr) (n : Nat)
include sound

theorem PathSound.invalidate (a n : Nat) : PathSound (s.invalidate a n) := by
  have only := pathOnly_invalidate s a n
  obtain ⟨ls, h⟩ := s.invalidate_eq a n
  exact ⟨only.cfg ▸ sound.valid, by rw [h]; exact sound.memory,
    by rw [only.cfg]; exact State.invalidate_cacheLegal sound.cache a n⟩

theorem State.mem_invalidate (l : CacheLine) :
    l ∈ (s.invalidate a.toNat n).cache ↔
      l ∈ s.cache ∧ ¬ (LineMeets s.cfg l a.toNat n ∧ uncachedRing s.cfg l.base = false) := by
  cases nc : s.cfg.cacheMode with
  | coherent => simp [State.invalidate_coherent nc, sound.no_cache nc]
  | noncoherent =>
    rw [State.invalidate_noncoherent nc, State.setCache_cache, List.mem_filter]
    refine and_congr_right fun hl => ?_
    rw [← maintained_iff sound.valid (sound.legal hl) a.isLt n, Bool.not_eq_true', Bool.not_eq_true]

/-- The line of a byte meets the range exactly where DC_INVAL drops the byte's line. -/
theorem invalidated_iff {l : CacheLine} (hl : l ∈ s.cache) {x : Nat} (base : l.base = lineBase s.cfg x)
    (nc : s.cfg.cacheMode = .noncoherent) :
    Invalidated s.cfg a n x ↔ LineMeets s.cfg l a.toNat n ∧ uncachedRing s.cfg l.base = false := by
  rw [Invalidated, base, uncachedRing_lineBase sound.valid nc, and_comm]
  refine and_congr_left fun _ => exists_congr fun k => and_congr_right fun _ => ?_
  have same : (a.toNat + k) % 2 ^ 64 / s.cfg.line = x / s.cfg.line ↔ lineBase s.cfg ((a.toNat + k) % 2 ^ 64) = l.base := by
    rw [base, lineBase, lineBase]
    exact (Nat.mul_left_inj (Nat.pos_iff_ne_zero.1 sound.pos)).symm
  rw [same, ← sound.line_of hl]
  constructor
  · rintro ⟨lower, upper⟩
    exact ⟨(a.toNat + k) % 2 ^ 64 - l.base, by omega, by omega⟩
  · rintro ⟨j, hj, e⟩
    omega

theorem State.find_invalidate {x : Nat} (nc : s.cfg.cacheMode = .noncoherent) :
    (Invalidated s.cfg a n x → cacheFind (s.invalidate a.toNat n).cache (lineBase s.cfg x) = none) ∧
    (¬ Invalidated s.cfg a n x →
      cacheFind (s.invalidate a.toNat n).cache (lineBase s.cfg x) = cacheFind s.cache (lineBase s.cfg x)) := by
  refine ⟨fun dropped => cacheFind_eq_none.2 fun l hl base => ?_, fun kept => ?_⟩
  · obtain ⟨old, notMet⟩ := (State.mem_invalidate sound a n l).1 hl
    exact notMet ((invalidated_iff sound a n old base nc).1 dropped)
  · cases found : cacheFind s.cache (lineBase s.cfg x) with
    | none =>
      exact cacheFind_eq_none.2 fun l hl =>
        cacheFind_eq_none.1 found l ((State.mem_invalidate sound a n l).1 hl).1
    | some l =>
      obtain ⟨hl, base⟩ := cacheFind_some found
      rw [← base]
      exact cacheFind_of_mem (sound.invalidate _ _).rise ((State.mem_invalidate sound a n l).2
        ⟨hl, mt (invalidated_iff sound a n hl base nc).2 kept⟩)

/-- Where a line is dropped the host sees memory; elsewhere it sees what it saw. -/
theorem State.hostByte_invalidate (x : Nat) :
    (Invalidated s.cfg a n x → (s.invalidate a.toNat n).hostByte x = s.mem.read x) ∧
    (¬ Invalidated s.cfg a n x → (s.invalidate a.toNat n).hostByte x = s.hostByte x) := by
  have cfg := (pathOnly_invalidate s a.toNat n).cfg
  have mem : (s.invalidate a.toNat n).mem = s.mem := by
    obtain ⟨ls, h⟩ := s.invalidate_eq a.toNat n
    rw [h]
    rfl
  cases hc : cacheable s.cfg x with
  | false => simp [State.hostByte, cfg, mem, hc]
  | true =>
    have nc := cacheable_noncoherent hc
    obtain ⟨dropped, kept⟩ := State.find_invalidate sound a n (x := x) nc
    refine ⟨fun h => ?_, fun h => ?_⟩
    · simp only [State.hostByte, cfg, hc, if_true, dropped h, mem]
    · simp only [State.hostByte, cfg, hc, if_true, kept h, mem]

end

@[simp] theorem State.invalidate_mem (s : State) (a n : Nat) : (s.invalidate a n).mem = s.mem := by
  obtain ⟨ls, h⟩ := s.invalidate_eq a n
  rw [h]
  rfl

end Sys2Proof.Machine
end

section
/-! Stores published by a fence and a flush, the update of a descriptor's slot, and the frame of the ring's procedures
(43_ring.md R300 to R302; 41_host_primitives.md R228, R229). -/

namespace Sys2Proof.Machine

/-! Stores, a fence and DC_FLUSH. -/

/-- What the stores `es`, drained, and then DC_FLUSH of [a, a+n) leave. -/
structure Published (es : List SbEntry) (a n : Nat) (s t : State) : Prop where
  only : PathOnly s t
  sound : PathSound t
  word : ∀ x v, x.toNat % 4 = 0 → sbLookup es x = some v → t.hostWord x = v ∧ t.mem.readWord x = v
  seen : ∀ x, ¬ StoredByte es x → t.hostByte x = s.hostByte x
  mem : ∀ x, ¬ InSpan a n x → t.mem.read x = s.mem.read x
  direct : (∀ x, InSpan a n x → cacheable s.cfg x = false) →
    t.cache = s.cache ∧ ∀ x, ¬ StoredByte es x → t.mem.read x = s.mem.read x
  lines : ∀ l, ¬ InSpan a n l.base ∨ uncachedRing s.cfg l.base = true → (l ∈ t.cache ↔ l ∈ s.cache)
  clean : ∀ l ∈ t.cache, InSpan a n l.base → uncachedRing s.cfg l.base = false → l.dirty = false

theorem storedByte_of_lookup {es : List SbEntry} {a : Addr} {v : Word} (h : sbLookup es a = some v) {x : Nat}
    (hx : InSpan a.toNat 4 x) : StoredByte es x := by
  by_contra unstored
  have : sbLookup es a = none := sbLookup_eq_none.2 fun e he same => unstored ⟨e, he, same ▸ hx⟩
  rw [this] at h
  cases h

theorem published {s : State} (sound : PathSound s) {a n : Nat} (whole : WholeLines s.cfg a n) {es : List SbEntry}
    (aligned : ∀ e ∈ es, e.addr.toNat % 4 = 0) (inside : ∀ e ∈ es, WordIn a n e.addr) :
    Published es a n s ((s.drainAll es).flush a n) := by
  have stored_in (x : Nat) (h : StoredByte es x) : InSpan a n x := by
    obtain ⟨e, he, hx⟩ := h
    have word := inside e he
    unfold InSpan WordIn at *
    omega
  obtain ⟨drained, dirty⟩ := drained_drainAll sound (at_ := fun x => StoredByte es x) aligned fun _ h => h
  have cfg := drained.only.cfg
  have whole' : WholeLines (s.drainAll es).cfg a n := cfg ▸ whole
  have seen := State.hostByte_flush drained.sound whole'
  refine ⟨drained.only.trans (pathOnly_flush _ _ _), drained.sound.flush a n, fun x v hx found => ?word,
    fun x other => (seen x).trans (State.hostByte_drainAll sound aligned other), fun x outside => ?mem,
    fun direct => ?direct, fun l other => ?lines, fun l hl inSpan cached => ?clean⟩
  case word =>
    have hostWord : ((s.drainAll es).flush a n).hostWord x = v := by
      rw [hostWord_congr fun k _ => seen _, State.hostWord_drainAll sound aligned hx, found, Option.getD_some]
    refine ⟨hostWord, (readWord_eq_hostWord fun k hk => ?_).trans hostWord⟩
    have fits := word_fits hx
    have stored : StoredByte es ((x.toNat + k) % 2 ^ 64) := by
      refine storedByte_of_lookup found ?_
      rw [Nat.mod_eq_of_lt (by omega)]
      exact ⟨by omega, by omega⟩
    rw [seen, State.flush_publishes drained.sound whole' (stored_in _ stored) (dirty _ stored)]
  case mem =>
    rw [State.flush_mem drained.sound whole' (.inl outside), drained.mem x fun h => outside (stored_in x h)]
  case direct =>
    obtain ⟨cache, mem⟩ := State.flush_direct drained.sound whole' (by rwa [cfg])
    exact ⟨cache.trans (drained.direct fun x h => direct x (stored_in x h)), fun x other => (mem x).trans (drained.mem x other)⟩
  case lines =>
    rw [State.mem_flush drained.sound whole' (by rwa [cfg])]
    refine drained.lines l fun x h cacheable base => ?_
    have nc := cacheable_noncoherent cacheable
    rcases other with outside | uncached
    · exact outside (base ▸ (whole.inSpan_lineBase sound.pos nc x).2 (stored_in x h))
    · rw [base, uncachedRing_lineBase sound.valid nc] at uncached
      simp [cacheable_of_noncoherent nc, uncached] at cacheable
  case clean => exact State.flush_clean drained.sound whole' hl inSpan (by rwa [cfg])

theorem sbLookup_some {es : List SbEntry} {a : Addr} {v : Word} (h : sbLookup es a = some v) :
    ∃ e ∈ es, e.addr = a ∧ e.val = v := by
  induction es with
  | nil => cases h
  | cons y es ih =>
    rw [sbLookup] at h
    cases found : sbLookup es a with
    | some w =>
      rw [found] at h
      obtain ⟨e, he, found⟩ := ih (found.trans h)
      exact ⟨e, by simp [he], found⟩
    | none =>
      rw [found] at h
      obtain ⟨here, same⟩ := Option.ite_none_right_eq_some.1 h
      exact ⟨y, by simp, here, Option.some.inj same⟩

/-- What is forwarded for a word to which all stores store the same. -/
theorem sbLookup_of_unique {es : List SbEntry} {e : SbEntry} (he : e ∈ es)
    (unique : ∀ x ∈ es, x.addr = e.addr → x.val = e.val) : sbLookup es e.addr = some e.val := by
  cases found : sbLookup es e.addr with
  | none => exact absurd rfl (sbLookup_eq_none.1 found e he)
  | some v =>
    obtain ⟨x, hx, same, rfl⟩ := sbLookup_some found
    rw [unique x hx same]

/-- A fence and DC_FLUSH in a quiet run, over pending stores that the bus accepts. -/
theorem QuietRuns.publish {s : State} (valid : paramsValid s.cfg = true) (empty : s.sb = []) {es : List SbEntry}
    (bus : ∀ e ∈ es, busResp s.cfg e.addr 4 true = .okay) {a : Addr} {n : Nat} {is : List Item} {v : Value}
    (later : s.irqs = [] ∨ is ≠ []) :
    QuietRuns ((s.withSb es).poised (.op .fence :: .op (.dcFlush a n) :: is) v)
      (((s.drainAll es).flush a.toNat n).poised is .unit) := by
  have only := pathOnly_drainAll s es
  have drained : (s.drainAll es).withSb [] = s.drainAll es := by
    rw [← empty, ← only.sb]
    rfl
  have fence := QuietRuns.fence (is := .op (.dcFlush a n) :: is) (v := v) valid bus (.inr (by simp))
  rw [drained] at fence
  exact fence.trans (HostRuns.dcFlush (only.cfg ▸ valid) a n (only.irqs ▸ later)).quiet

/-! The frame of the ring's procedures. -/

/-- What a ring procedure leaves alone within its critical section: all but memory, the cache, the channel's record, the log
of callbacks and the run's inputs. -/
structure Alike (s t : State) : Prop where
  cfg : t.cfg = s.cfg
  eng : t.eng = s.eng
  rstBusy : t.rstBusy = s.rstBusy
  gie : t.gie = s.gie
  lines : t.lines = s.lines
  sb : t.sb = s.sb
  ctl : t.ctl = s.ctl
  outs : t.outs = s.outs
  logs : t.logs = s.logs
  irqs : t.irqs = s.irqs

theorem Alike.refl (s : State) : Alike s s := ⟨rfl, rfl, rfl, rfl, rfl, rfl, rfl, rfl, rfl, rfl⟩

theorem Alike.trans {s t u : State} (h : Alike s t) (k : Alike t u) : Alike s u :=
  ⟨k.cfg.trans h.cfg, k.eng.trans h.eng, k.rstBusy.trans h.rstBusy, k.gie.trans h.gie, k.lines.trans h.lines,
    k.sb.trans h.sb, k.ctl.trans h.ctl, k.outs.trans h.outs, k.logs.trans h.logs, k.irqs.trans h.irqs⟩

theorem PathOnly.alike {s t : State} (h : PathOnly s t) : Alike s t := by
  obtain ⟨_, _, _, _, rfl⟩ := h
  exact ⟨rfl, rfl, rfl, rfl, rfl, rfl, rfl, rfl, rfl, rfl⟩

theorem alike_setRec (s : State) (c : Chan) (r : Record) : Alike s (s.setRec c r) :=
  ⟨rfl, rfl, rfl, rfl, rfl, rfl, rfl, rfl, rfl, rfl⟩

/-- The state with other masks. -/
def State.withMasks (s : State) (ls : Pair Line) (g : Bool) : State := { s with lines := ls, gie := g }

/-- The frame of a procedure that puts the masks back and returns. -/
theorem Alike.around {s t : State} {ls : Pair Line} {g : Bool} (h : Alike (s.withMasks ls g) t) (is : List Item)
    (v : Value) : SameAround s ((t.withMasks s.lines s.gie).poised is v) :=
  ⟨h.cfg, h.rstBusy, rfl, rfl, h.ctl, h.outs, h.logs,
    (State.poised_interrupted ..).trans (congrArg (List.drop 1) h.irqs)⟩

/-- A critical section (R228, R229): whatever the mode, CS_ENTER masks, and CS_EXIT with its key puts the masks back. -/
theorem critical_section {s : State} {c : Chan} (valid : paramsValid s.cfg = true)
    (wired : (s.ch.get c).irq = s.cfg.irq.get c) :
    ∃ key ls g,
      (∀ is v, s.irqs = [] ∨ is ≠ [] → HostRuns (s.poised (.op (.csEnter (chanNum c)) :: is) v)
        ((s.withMasks ls g).poised is (.key key))) ∧
      ∀ u is v, Alike (s.withMasks ls g) u → (u.irqs = [] ∨ is ≠ []) →
        HostRuns (u.poised (.op (.csExit key) :: is) v) ((u.withMasks s.lines s.gie).poised is .unit) := by
  cases mode : s.cfg.csMode with
  | global =>
    refine ⟨.global s.gie, s.lines, false, fun is v later => ?_, fun u is v alike later => ?_⟩
    · refine .op valid nofun nofun ((exec_csEnter_global (s := s.poised is v) mode _).trans ?_) later
      exact congrArg _ (State.answer_poised (s.withMasks s.lines false) is v _)
    · refine .op (alike.cfg ▸ valid) nofun nofun ?_ later
      have masks : u.withMasks s.lines s.gie = { u with gie := s.gie } := by
        rw [show s.lines = u.lines from alike.lines.symm]
        rfl
      rw [masks]
      exact congrArg _ (State.answer_poised { u with gie := s.gie } is v .unit)
  | bothLines =>
    refine ⟨.both s.lines.tx.en s.lines.rx.en, ((s.setEn .tx false).setEn .rx false).lines, s.gie,
      fun is v later => ?_, fun u is v alike later => ?_⟩
    · refine .op valid nofun nofun ((exec_csEnter_bothLines (s := s.poised is v) mode _).trans ?_) later
      exact congrArg _ (State.answer_poised ((s.setEn .tx false).setEn .rx false) is v _)
    · refine .op (alike.cfg ▸ valid) nofun nofun ?_ later
      have masks : u.withMasks s.lines s.gie = (u.setEn .tx s.lines.tx.en).setEn .rx s.lines.rx.en := by
        rw [show s.gie = u.gie from alike.gie.symm]
        simp only [State.setEn, alike.lines]
        rfl
      rw [masks]
      exact congrArg _ (State.answer_poised ((u.setEn .tx s.lines.tx.en).setEn .rx s.lines.rx.en) is v .unit)
  | channelLine =>
    refine ⟨.line (s.cfg.irq.get c) (s.lines.get c).en, (s.setEn c false).lines, s.gie, fun is v later => ?_,
      fun u is v alike later => ?_⟩
    · refine .op valid nofun nofun ((exec_csEnter_channelLine (s := s.poised is v) mode valid wired).trans ?_) later
      exact congrArg _ (State.answer_poised (s.setEn c false) is v _)
    · have valid' : paramsValid u.cfg = true := alike.cfg ▸ valid
      have exit := exec_csExit_line (s := u.poised is v) valid' c (s.lines.get c).en
      have cfg : u.cfg = s.cfg := alike.cfg
      rw [State.poised_cfg, cfg] at exit
      refine .op valid' nofun nofun (exit.trans ?_) later
      have masks : u.withMasks s.lines s.gie = u.setEn c (s.lines.get c).en := by
        rw [show s.gie = u.gie from alike.gie.symm]
        simp only [State.setEn, alike.lines]
        cases c <;> rfl
      rw [masks]
      exact congrArg _ (State.answer_poised (u.setEn c (s.lines.get c).en) is v .unit)

/-- A context about to run an operation is poised before it. -/
theorem AboutTo.poised {s : State} {i : Instr} {rest : List Item} (h : AboutTo s i rest) :
    s.poised (.op i :: rest) s.ret = s := by
  rw [← h.code]
  exact s.poised_self

/-- A procedure called: its operation runs, its expansion poised before the rest. -/
theorem HostRuns.call {s : State} {i : Instr} {rest is : List Item} (about : AboutTo s i rest) (proc : i.opClass = .proc)
    (run : exec i (s.poised rest s.ret) = .next ((s.poised rest s.ret).push is)) (more : is ≠ []) :
    HostRuns s (s.poised (is ++ rest) s.ret) := by
  rw [State.push_poised] at run
  have step := HostRuns.op about.valid (by simp [proc]) (by rintro rfl; cases proc) run (.inr (by simp [more]))
  rwa [about.poised] at step

theorem Inv.pathSound {s : State} (inv : Inv s) (valid : paramsValid s.cfg = true) : PathSound s :=
  ⟨valid, inv.memory, inv.cache⟩

end Sys2Proof.Machine
end

section
/-! RELINK: the ring as one closed cycle (43_ring.md R300; 10_state.md R71). -/

namespace Sys2Proof.Machine

/-! Pointers and their halves (30_encoding.md R163). -/

theorem hi32_append_lo32 (a : Addr) : hi32 a ++ lo32 a = a := by
  apply BitVec.eq_of_getLsbD_eq
  intro i hi
  rw [BitVec.getLsbD_append, hi32, lo32, BitVec.getLsbD_extractLsb', BitVec.getLsbD_extractLsb']
  grind

/-! The stores that link a ring. -/

/-- The stores of RELINK, for each descriptor the two halves of its successor's address. -/
def linkStores (p : Params) (c : Chan) : List SbEntry :=
  (List.range (p.cap.get c)).flatMap fun i =>
    [⟨descAddr p c i, lo32 (descAddr p c ((i + 1) % p.cap.get c))⟩,
     ⟨descAddr p c i + 4, hi32 (descAddr p c ((i + 1) % p.cap.get c))⟩]

theorem relinkCode_eq {p : Params} {c : Chan} {r : Record} (ring : r.ring = p.ring.get c) (cap : r.cap = p.cap.get c) :
    relinkCode p c r = (linkStores p c).map (fun e => .op (.st32 e.addr e.val)) ++
      [.op .fence, .op (.dcFlush (p.ring.get c) (64 * p.cap.get c)), .cont (.ret .unit)] := by
  rw [relinkCode, linkStores, List.map_flatMap, ring, cap]
  rfl

theorem mem_linkStores {p : Params} {c : Chan} {e : SbEntry} : e ∈ linkStores p c ↔ ∃ i, i < p.cap.get c ∧
    (e = ⟨descAddr p c i, lo32 (descAddr p c ((i + 1) % p.cap.get c))⟩ ∨
     e = ⟨descAddr p c i + 4, hi32 (descAddr p c ((i + 1) % p.cap.get c))⟩) := by
  simp [linkStores]

section
variable {p : Params} (valid : paramsValid p = true) (c : Chan)
include valid

theorem descAddr_add_four {i : Nat} (hi : i < p.cap.get c) : (descAddr p c i + 4).toNat = (descAddr p c i).toNat + 4 :=
  (isSlot_descAddr valid hi).toNat_add (k := 4) (by decide)

/-- Each link store is one half of a descriptor's link, at 64 i or 64 i + 4 in the ring. -/
theorem linkStores_place {e : SbEntry} (he : e ∈ linkStores p c) : ∃ i k, i < p.cap.get c ∧ (k = 0 ∨ k = 4) ∧
    e.addr.toNat = (descAddr p c i).toNat + k ∧
    e.val = (if k = 0 then lo32 else hi32) (descAddr p c ((i + 1) % p.cap.get c)) := by
  obtain ⟨i, hi, rfl | rfl⟩ := mem_linkStores.1 he
  · exact ⟨i, 0, hi, .inl rfl, rfl, rfl⟩
  · exact ⟨i, 4, hi, .inr rfl, descAddr_add_four valid c hi, rfl⟩

theorem linkStores_aligned {e : SbEntry} (he : e ∈ linkStores p c) : e.addr.toNat % 4 = 0 := by
  obtain ⟨i, k, hi, hk, place, -⟩ := linkStores_place valid c he
  have := (isSlot_descAddr valid hi).aligned
  omega

theorem linkStores_inside {e : SbEntry} (he : e ∈ linkStores p c) :
    WordIn (p.ring.get c).toNat (64 * p.cap.get c) e.addr := by
  obtain ⟨i, k, hi, hk, place, -⟩ := linkStores_place valid c he
  rw [descAddr_toNat valid hi] at place
  unfold WordIn
  omega

/-- The bytes stored are those of the links. -/
theorem storedByte_linkStores (x : Nat) : StoredByte (linkStores p c) x ↔ LinkByte p c x := by
  constructor
  · rintro ⟨e, he, hx⟩
    obtain ⟨i, k, hi, hk, place, -⟩ := linkStores_place valid c he
    exact ⟨i, hi, by unfold InSpan at *; omega⟩
  · rintro ⟨i, hi, hx⟩
    by_cases low : x < (descAddr p c i).toNat + 4
    · exact ⟨_, mem_linkStores.2 ⟨i, hi, .inl rfl⟩, hx.1, low⟩
    · refine ⟨_, mem_linkStores.2 ⟨i, hi, .inr rfl⟩, ?_⟩
      rw [descAddr_add_four valid c hi]
      unfold InSpan at *
      omega

/-- Each word of a link is stored once. -/
theorem sbLookup_linkStores {e : SbEntry} (he : e ∈ linkStores p c) : sbLookup (linkStores p c) e.addr = some e.val := by
  refine sbLookup_of_unique he fun x hx same => ?_
  obtain ⟨i, k, hi, hk, place, val⟩ := linkStores_place valid c he
  obtain ⟨j, l, hj, hl, place', val'⟩ := linkStores_place valid c hx
  rw [same, place, descAddr_toNat valid hi, descAddr_toNat valid hj] at place'
  obtain ⟨rfl, rfl⟩ : i = j ∧ k = l := by omega
  rw [val, val']

/-- Stored in a state, the links close the ring, in memory and as the host sees it. -/
theorem linksClose_of_published {a n : Nat} {s t : State} (pub : Published (linkStores p c) a n s t) :
    LinksClose p c t.mem.readWord ∧ LinksClose p c t.hostWord := by
  have word {e : SbEntry} (he : e ∈ linkStores p c) :=
    pub.word e.addr e.val (linkStores_aligned valid c he) (sbLookup_linkStores valid c he)
  refine ⟨fun i hi => ?_, fun i hi => ?_⟩
  all_goals
    obtain ⟨lo, lo'⟩ := word (mem_linkStores.2 ⟨i, hi, .inl rfl⟩)
    obtain ⟨hi, hi'⟩ := word (mem_linkStores.2 ⟨i, hi, .inr rfl⟩)
    simp only [lo, lo', hi, hi', hi32_append_lo32]

end

/-! The run. -/

/-- A quiet run of RELINK stores the links and flushes the ring, and does nothing else. -/
theorem relink_runs {s : State} {c : Chan} {rest : List Item} (about : AboutTo s (.relink (chanNum c)) rest)
    (ready : s.ctl = .ready) (inv : Inv s) (empty : s.sb = [])
    (bus : ∀ i, i < s.cfg.cap.get c → busResp s.cfg (descAddr s.cfg c i) 4 true = .okay ∧
      busResp s.cfg (descAddr s.cfg c i + 4) 4 true = .okay) :
    ∃ u, QuietRuns s (u.poised rest .unit) ∧
      Published (linkStores s.cfg c) (s.cfg.ring.get c).toNat (64 * s.cfg.cap.get c) s u := by
  obtain ⟨ring, cap, -⟩ := recordLegal_iff.1 (inv.records c)
  have valid := about.valid
  have pub := published (inv.pathSound valid) (wholeLines_ring valid c)
    (fun e he => linkStores_aligned valid c he) (fun e he => linkStores_inside valid c he)
  refine ⟨_, ?_, pub⟩
  have accepted (e : SbEntry) (he : e ∈ linkStores s.cfg c) : busResp s.cfg e.addr 4 true = .okay := by
    obtain ⟨i, hi, rfl | rfl⟩ := mem_linkStores.1 he
    · exact (bus i hi).1
    · exact (bus i hi).2
  have expands := HostRuns.call about rfl (withReady_ready (s := s.poised rest s.ret) ready c _)
    (List.append_ne_nil_of_right_ne_nil _ (List.cons_ne_nil _ _))
  rw [show relinkCode (s.poised rest s.ret).cfg c ((s.poised rest s.ret).ch.get c) = relinkCode s.cfg c (s.ch.get c)
    from rfl] at expands
  rw [relinkCode_eq ring cap, List.append_assoc] at expands
  obtain ⟨w, stores⟩ := HostRuns.stores (v := s.ret) valid (fun e he => linkStores_aligned valid c he)
    (is := [.op .fence, .op (.dcFlush (s.cfg.ring.get c) (64 * s.cfg.cap.get c)), .cont (.ret .unit)] ++ rest)
    (by simp)
  rw [empty, List.nil_append] at stores
  have publish := QuietRuns.publish (is := .cont (.ret .unit) :: rest) (v := w) (a := s.cfg.ring.get c)
    (n := 64 * s.cfg.cap.get c) valid empty accepted (.inr (by simp))
  have return_ := HostRuns.ret (v := .unit) (w := .unit) (pub.only.cfg ▸ valid) (pub.only.irqs ▸ about.later)
  exact (expands.trans stores).quiet.trans (publish.trans return_.quiet)

/-- RELINK in every cache mode. -/
theorem relink_closes {s : State} {c : Chan} {rest : List Item} (about : AboutTo s (.relink (chanNum c)) rest)
    (ready : s.ctl = .ready) (inv : Inv s) (empty : s.sb = [])
    (bus : ∀ i, i < s.cfg.cap.get c → busResp s.cfg (descAddr s.cfg c i) 4 true = .okay ∧
      busResp s.cfg (descAddr s.cfg c i + 4) 4 true = .okay) :
    ∃ n t, quietRun n s = .next t ∧ t.code = rest ∧ t.sb = [] ∧
      LinksClose s.cfg c t.mem.readWord ∧ LinksClose s.cfg c t.loadWord ∧
      (∀ x, inRingOf s.cfg c x = false → t.mem.read x = s.mem.read x) ∧
      (∀ x, ¬ LinkByte s.cfg c x → t.hostByte x = s.hostByte x) ∧
      (s.cfg.cacheMode = .coherent ∨ s.cfg.descUncached = true →
        t.cache = s.cache ∧ ∀ x, ¬ LinkByte s.cfg c x → t.mem.read x = s.mem.read x) ∧
      (∀ l, inRingOf s.cfg c l.base = false → (l ∈ t.cache ↔ l ∈ s.cache)) ∧
      (s.cfg.descUncached = false → ∀ l ∈ t.cache, inRingOf s.cfg c l.base = true → l.dirty = false) ∧
      t.eng = s.eng ∧ t.ch = s.ch ∧ t.cblog = s.cblog ∧ SameAround s t := by
  obtain ⟨u, ⟨n, run⟩, pub⟩ := relink_runs about ready inv empty bus
  have valid := about.valid
  have outside {x : Nat} (h : inRingOf s.cfg c x = false) :
      ¬ InSpan (s.cfg.ring.get c).toNat (64 * s.cfg.cap.get c) x := fun inside => by
    rw [inRingOf_iff.2 inside] at h
    cases h
  have unlinked {x : Nat} (h : ¬ LinkByte s.cfg c x) := mt (storedByte_linkStores valid c x).1 h
  have sb : u.sb = [] := pub.only.sb.trans empty
  obtain ⟨memory, view⟩ := linksClose_of_published valid c pub
  have alike := pub.only.alike
  refine ⟨n, _, run, State.code_poised .., sb, memory, fun i hi => ?_, fun x hx => pub.mem x (outside hx),
    fun x hx => pub.seen x (unlinked hx), fun direct => ?_, fun l hl => pub.lines l (.inl (outside hl)),
    fun cachedRing l hl inside => pub.clean l hl (inRingOf_iff.1 inside) (by simp [uncachedRing, cachedRing]),
    alike.eng, pub.only.ch, congrArg Parts.cblog pub.only.parts,
    alike.cfg, alike.rstBusy, alike.gie, alike.lines, alike.ctl, alike.outs, alike.logs,
    (State.poised_interrupted ..).trans (congrArg (List.drop 1) alike.irqs)⟩
  · rw [State.poised_loadWord, State.poised_loadWord, loadWord_of_empty sb, loadWord_of_empty sb]
    exact view i hi
  · obtain ⟨cache, mem⟩ := pub.direct fun x hx => cacheable_of_direct direct (inRingOf_iff.2 hx)
    exact ⟨cache, fun x hx => mem x (unlinked hx)⟩

/-- Settles O29: RELINK in every mode; in COHERENT mode its view and memory are one. -/
theorem relinkClosesTheRing : Obligations.RelinkClosesTheRing := by
  refine ⟨fun s c rest about ready inv coherent empty bus => ?_,
    fun s c rest about ready inv empty bus => relink_closes about ready inv empty bus⟩
  obtain ⟨n, t, run, code, sb, links, -, -, -, direct, -, -, eng, ch, cblog, around⟩ :=
    relink_closes about ready inv empty bus
  obtain ⟨cache, mem⟩ := direct (.inl coherent)
  refine ⟨n, t, run, code, sb, links, fun x hx => mem x ?_, eng, ch, around.lines, around.gie, cblog, around.logs,
    around.cfg, around.rstBusy, around.ctl, around.outs, cache, around.interrupted⟩
  rintro ⟨i, hi, lower, upper⟩
  rcases hx i hi with below | above <;> omega

end Sys2Proof.Machine
end

section
/-! A descriptor's slot: its words loaded, an RX buffer's lines dropped, and its new words published (43_ring.md R301,
R302; 20_memory.md R125). -/

namespace Sys2Proof.Machine

/-! The words of a slot. -/

theorem isSlot_mod {p : Params} (valid : paramsValid p) (c : Chan) (i : Nat) :
    IsSlot p c (descAddr p c (i % p.cap.get c)) :=
  isSlot_descAddr valid (Nat.mod_lt _ (ring_bounds valid c).1)

section
variable {p : Params} {c : Chan} {d : Addr} (slot : IsSlot p c d) {k : Nat} (hk : k % 4 = 0) (small : k + 4 ≤ 64)
include slot hk small

theorem IsSlot.word_aligned : (d + BitVec.ofNat 64 k).toNat % 4 = 0 := by
  rw [slot.toNat_add (by omega)]
  have := slot.aligned
  omega

theorem IsSlot.word_inside : WordIn d.toNat 64 (d + BitVec.ofNat 64 k) := by
  have place := slot.toNat_add (k := k) (by omega)
  unfold WordIn
  omega

end

/-! Loads from a slot. -/

/-- What loads from the slot `d` leave: lines of the slot, at most, join the cache. -/
structure Loaded (d : Addr) (s t : State) : Prop where
  only : PathOnly s t
  sound : PathSound t
  mem : t.mem = s.mem
  seen : ∀ x, t.hostByte x = s.hostByte x
  lines : ∀ l, ¬ InSpan d.toNat 64 l.base ∨ uncachedRing s.cfg l.base = true → (l ∈ t.cache ↔ l ∈ s.cache)

theorem Loaded.refl (d : Addr) {s : State} (sound : PathSound s) : Loaded d s s :=
  ⟨.refl s, sound, rfl, fun _ => rfl, fun _ _ => Iff.rfl⟩

theorem Loaded.trans {d : Addr} {s t u : State} (h : Loaded d s t) (k : Loaded d t u) : Loaded d s u :=
  ⟨h.only.trans k.only, k.sound, k.mem.trans h.mem, fun x => (k.seen x).trans (h.seen x),
    fun l hl => (k.lines l (by rwa [h.only.cfg])).trans (h.lines l hl)⟩

theorem Loaded.loadWord {d : Addr} {s t : State} (h : Loaded d s t) (a : Addr) : t.loadWord a = s.loadWord a := by
  rw [State.loadWord, State.loadWord, h.only.sb, hostWord_congr fun k _ => h.seen _]

theorem loaded_afterLoad {s : State} (sound : PathSound s) {c : Chan} {d : Addr} (slot : IsSlot s.cfg c d) {k : Nat}
    (hk : k % 4 = 0) (small : k + 4 ≤ 64) : Loaded d s (s.afterLoad (d + BitVec.ofNat 64 k)) :=
  ⟨pathOnly_afterLoad s _, sound.afterLoad _, State.afterLoad_mem s _, State.hostByte_afterLoad sound _,
    fun _ other => State.mem_afterLoad sound slot.whole (slot.word_inside hk small) other⟩

/-- A load from a ring that the host reaches without the cache changes nothing. -/
theorem afterLoad_slot_direct {s : State} (direct : DirectRings s.cfg) {c : Chan} {d : Addr} (slot : IsSlot s.cfg c d)
    {k : Nat} (hk : k % 4 = 0) (small : k + 4 ≤ 64) :
    s.afterLoad (d + BitVec.ofNat 64 k) = s := by
  have place := slot.word_inside hk small
  have fits := slot.whole.fits
  unfold WordIn at place
  refine State.afterLoad_direct (by omega) fun x hx => cacheable_of_direct direct (slot.inRing x ?_)
  unfold InSpan at *
  omega

/-- The load of a slot's word in a run. -/
theorem HostRuns.loadSlot {s : State} (sound : PathSound s) {c : Chan} {d : Addr} (slot : IsSlot s.cfg c d) {k : Nat}
    (hk : k % 4 = 0) (small : k + 4 ≤ 64) (bus : busResp s.cfg (d + BitVec.ofNat 64 k) 4 false = .okay) {is : List Item}
    (more : is ≠ []) (v : Value) :
    HostRuns (s.poised (.op (.ld32 (d + BitVec.ofNat 64 k)) :: is) v)
      ((s.afterLoad (d + BitVec.ofNat 64 k)).poised is (.word (s.loadWord (d + BitVec.ofNat 64 k)))) :=
  .ld32 sound.valid (slot.word_aligned hk small) bus (.inr more)

/-! The invalidation of an RX buffer. -/

/-- DC_INVAL of an RX buffer; a TX buffer is left as it is. -/
def State.dropRx (s : State) (c : Chan) (buf : Addr) (n : Nat) : State :=
  match c with
  | .tx => s
  | .rx => s.invalidate buf.toNat n

theorem pathOnly_dropRx (s : State) (c : Chan) (buf : Addr) (n : Nat) : PathOnly s (s.dropRx c buf n) := by
  cases c with
  | tx => exact .refl s
  | rx => exact pathOnly_invalidate s _ _

theorem PathSound.dropRx {s : State} (sound : PathSound s) (c : Chan) (buf : Addr) (n : Nat) :
    PathSound (s.dropRx c buf n) := by
  cases c with
  | tx => exact sound
  | rx => exact sound.invalidate _ _

@[simp] theorem State.dropRx_mem (s : State) (c : Chan) (buf : Addr) (n : Nat) : (s.dropRx c buf n).mem = s.mem := by
  cases c with
  | tx => rfl
  | rx => exact State.invalidate_mem s _ _

theorem State.mem_dropRx {s : State} (sound : PathSound s) (c : Chan) (buf : Addr) (n : Nat) (l : CacheLine) :
    l ∈ (s.dropRx c buf n).cache ↔ l ∈ s.cache ∧
      ¬ (c = .rx ∧ LineMeets s.cfg l buf.toNat n ∧ uncachedRing s.cfg l.base = false) := by
  cases c with
  | tx => simp [State.dropRx]
  | rx => simpa [State.dropRx] using State.mem_invalidate sound buf n l

theorem State.hostByte_dropRx {s : State} (sound : PathSound s) (c : Chan) (buf : Addr) (n x : Nat) :
    (c = .rx → Invalidated s.cfg buf n x → (s.dropRx c buf n).hostByte x = s.mem.read x) ∧
    (¬ (c = .rx ∧ Invalidated s.cfg buf n x) → (s.dropRx c buf n).hostByte x = s.hostByte x) := by
  cases c with
  | tx => simp [State.dropRx]
  | rx => simpa [State.dropRx] using State.hostByte_invalidate sound buf n x

/-! The update of a slot. -/

/-- Two states have the same parameters, memory and cache: the host's path below the store buffer is the same. -/
structure SamePath (s t : State) : Prop where
  cfg : t.cfg = s.cfg
  mem : t.mem = s.mem
  cache : t.cache = s.cache

theorem SamePath.hostByte {s t : State} (h : SamePath s t) (x : Nat) : t.hostByte x = s.hostByte x := by
  simp only [State.hostByte, h.cfg, h.mem, h.cache]

theorem SamePath.sound {s t : State} (h : SamePath s t) (sound : PathSound s) : PathSound t :=
  ⟨h.cfg ▸ sound.valid, h.mem ▸ sound.memory, by rw [h.cfg, h.cache]; exact sound.cache⟩

/-- What loads from the slot `d`, on RX the invalidation of [buf, buf+n), and then the stores `es` into the slot,
published, leave. -/
structure SlotUpdated (c : Chan) (es : List SbEntry) (d buf : Addr) (n : Nat) (s t : State) : Prop where
  cfg : t.cfg = s.cfg
  sound : PathSound t
  word : ∀ x v, x.toNat % 4 = 0 → sbLookup es x = some v → t.hostWord x = v ∧ t.mem.readWord x = v
  mem : ∀ x, ¬ InSpan d.toNat 64 x → t.mem.read x = s.mem.read x
  direct : DirectRings s.cfg → ∀ x, ¬ StoredByte es x → t.mem.read x = s.mem.read x
  seen : ∀ x, ¬ StoredByte es x →
    (c = .rx → Invalidated s.cfg buf n x → t.hostByte x = s.mem.read x) ∧
    (¬ (c = .rx ∧ Invalidated s.cfg buf n x) → t.hostByte x = s.hostByte x)
  lines : ∀ l, ¬ InSpan d.toNat 64 l.base ∨ uncachedRing s.cfg l.base = true → (l ∈ t.cache ↔ l ∈ s.cache ∧
    ¬ (c = .rx ∧ LineMeets s.cfg l buf.toNat n ∧ uncachedRing s.cfg l.base = false))
  clean : ∀ l ∈ t.cache, InSpan d.toNat 64 l.base → uncachedRing s.cfg l.base = false → l.dirty = false

theorem slotUpdated {c : Chan} {es : List SbEntry} {d buf : Addr} {n : Nat} {s t u v : State}
    (slot : IsSlot s.cfg c d) (loaded : Loaded d s t) (dropped : SamePath (t.dropRx c buf n) u)
    (pub : Published es d.toNat 64 u v) : SlotUpdated c es d buf n s v := by
  have drop := pathOnly_dropRx t c buf n
  have cfgT : t.cfg = s.cfg := loaded.only.cfg
  have cfgU : u.cfg = s.cfg := dropped.cfg.trans (drop.cfg.trans cfgT)
  have memU : u.mem = s.mem := by rw [dropped.mem, State.dropRx_mem, loaded.mem]
  refine ⟨pub.only.cfg.trans cfgU, pub.sound, pub.word, fun x outside => by rw [pub.mem x outside, memU],
    fun direct x other => ?_, fun x other => ?_, fun l other => ?_, ?_⟩
  · have past (y : Nat) (hy : InSpan d.toNat 64 y) : cacheable u.cfg y = false := by
      rw [cfgU]
      exact cacheable_of_direct direct (slot.inRing y hy)
    rw [(pub.direct past).2 x other, memU]
  · have view := State.hostByte_dropRx loaded.sound c buf n x
    rw [cfgT, loaded.mem, loaded.seen] at view
    rw [pub.seen x other, dropped.hostByte]
    exact view
  · rw [pub.lines l (by rwa [cfgU]), dropped.cache, State.mem_dropRx loaded.sound, loaded.lines l other, cfgT]
  · rw [← cfgU]
    exact pub.clean

/-- In COHERENT mode there is no cache before or after. -/
theorem SlotUpdated.cache {c : Chan} {es : List SbEntry} {d buf : Addr} {n : Nat} {s t : State}
    (h : SlotUpdated c es d buf n s t) (sound : PathSound s) (coherent : s.cfg.cacheMode = .coherent) :
    t.cache = s.cache := by
  rw [sound.no_cache coherent, h.sound.no_cache (h.cfg ▸ coherent)]

end Sys2Proof.Machine
end

section
/-! POPULATE (43_ring.md R301, R305; 30_encoding.md R161, R164). -/

namespace Sys2Proof.Machine

/-! The checks. -/

/-- What is told apart by Populate's checks: the word CONTROL and the word STATUS as they were loaded. -/
theorem popCheck_busy (cfg : Params) (p : PopArgs) {ctl sts : Word} (h : ctl ≠ 0 ∨ sts ≠ 0) :
    popCheck cfg p ctl sts = .ebusy := if_pos h

theorem rxMisaligned_iff {cfg : Params} {p : PopArgs} : rxMisaligned cfg p = true ↔ p.c = .rx ∧
    cfg.cacheMode = .noncoherent ∧ (p.buf.toNat % cfg.line ≠ 0 ∨ p.len.toNat % cfg.line ≠ 0) := by
  simp [rxMisaligned, and_assoc]

theorem popCheck_unfit {cfg : Params} {p : PopArgs}
    (h : 2 ^ 26 ≤ p.len.toNat ∨ (p.c = .rx ∧ cfg.cacheMode = .noncoherent ∧
      (p.buf.toNat % cfg.line ≠ 0 ∨ p.len.toNat % cfg.line ≠ 0))) : popCheck cfg p 0 0 = .einval := by
  rw [popCheck, if_neg (by simp)]
  split
  · rfl
  · rename_i fits
    exact if_pos (rxMisaligned_iff.2 (h.resolve_left (by omega)))

theorem popCheck_fits {cfg : Params} {p : PopArgs} (h : BlockFits cfg p.c p.buf p.len) : popCheck cfg p 0 0 = .ok := by
  obtain ⟨size, aligned⟩ := h
  rw [popCheck, if_neg (by simp), if_neg (by omega), if_neg]
  intro misaligned
  obtain ⟨rx, nc, off⟩ := rxMisaligned_iff.1 misaligned
  obtain ⟨buf, len⟩ := aligned rx nc
  exact off.elim (fun h => h buf) fun h => h len

/-! The run up to the checks. -/

section
variable {s : State} {c : Chan} {buf : Addr} {len : Word} {first last : Bool} {rest : List Item}
  (about : AboutTo s (.populate (chanNum c) buf len first last) rest) (ready : s.ctl = .ready)
  (configured : (s.ch.get c).configured = true) (inv : Inv s)
include about ready configured inv

/-- A run of POPULATE comes to its checks with the words it loaded, and with the rule for leaving its critical section. -/
theorem populate_checks {ni : Nat} {d : Addr} (hni : ni = ((s.ch.get c).pop + 1) % s.cfg.cap.get c)
    (hd : d = descAddr s.cfg c ni) (busControl : busResp s.cfg (d + 0x18) 4 false = .okay)
    (busStatus : busResp s.cfg (d + 0x1C) 4 false = .okay) :
    ∃ key ls g,
      HostRuns s ((((s.withMasks ls g).afterLoad (d + 0x18)).afterLoad (d + 0x1C)).poised
        (.cont (.popSts ⟨c, buf, len, first, last⟩ key ni (s.loadWord (d + 0x18))) :: rest)
        (.word (s.loadWord (d + 0x1C)))) ∧
      ∀ u is v, Alike (s.withMasks ls g) u → (u.irqs = [] ∨ is ≠ []) →
        HostRuns (u.poised (.op (.csExit key) :: is) v) ((u.withMasks s.lines s.gie).poised is .unit) := by
  obtain ⟨ring, cap, irq, -⟩ := recordLegal_iff.1 (inv.records c)
  have slot : IsSlot s.cfg c d := by
    rw [hd, hni]
    exact isSlot_mod about.valid c _
  have sound := inv.pathSound about.valid
  obtain ⟨key, ls, g, enter, exit⟩ := critical_section about.valid irq
  refine ⟨key, ls, g, ?_, exit⟩
  have called := HostRuns.call about rfl ((withReady_ready (s := s.poised rest s.ret) ready c _).trans
    (whenConfigured_configured configured _)) (List.cons_ne_nil _ _)
  have masked : PathSound (s.withMasks ls g) := ⟨sound.valid, sound.memory, sound.cache⟩
  have loaded : Loaded d (s.withMasks ls g) ((s.withMasks ls g).afterLoad (d + 0x18)) :=
    loaded_afterLoad masked slot (k := 0x18) (by decide) (by decide)
  have toSlot : HostRuns ((s.withMasks ls g).poised (.cont (.popSlot ⟨c, buf, len, first, last⟩) :: rest) (.key key))
      ((s.withMasks ls g).poised (.op (.ld32 (d + 0x18)) :: .cont (.popCtl ⟨c, buf, len, first, last⟩ key ni) :: rest)
        (.key key)) := by
    refine .cont sound.valid ?_ (.inr (by simp))
    simp only [runPoint, popSlot, State.push_poised, State.ret_poised]
    rw [hd, hni, ← cap]
    rfl
  have first_ := HostRuns.loadSlot masked slot (k := 0x18) (by decide) (by decide) busControl
    (is := .cont (.popCtl ⟨c, buf, len, first, last⟩ key ni) :: rest) (by simp) (.key key)
  have toStatus : HostRuns (((s.withMasks ls g).afterLoad (d + 0x18)).poised
        (.cont (.popCtl ⟨c, buf, len, first, last⟩ key ni) :: rest) (.word (s.loadWord (d + 0x18))))
      (((s.withMasks ls g).afterLoad (d + 0x18)).poised (.op (.ld32 (d + 0x1C)) ::
        .cont (.popSts ⟨c, buf, len, first, last⟩ key ni (s.loadWord (d + 0x18))) :: rest)
        (.word (s.loadWord (d + 0x18)))) := by
    refine .cont loaded.sound.valid ?_ (.inr (by simp))
    simp only [runPoint, popCtl, State.push_poised, State.ret_poised, State.poised_cfg]
    rw [loaded.only.cfg, hd]
    rfl
  have second := HostRuns.loadSlot loaded.sound (c := c) (d := d) (loaded.only.cfg ▸ slot) (k := 0x1C) (by decide)
    (by decide) (loaded.only.cfg ▸ busStatus)
    (is := .cont (.popSts ⟨c, buf, len, first, last⟩ key ni (s.loadWord (d + 0x18))) :: rest) (by simp)
    (.word (s.loadWord (d + 0x18)))
  rw [loaded.loadWord] at second
  exact called.trans ((enter _ _ (.inr (by simp))).trans (toSlot.trans (first_.trans (toStatus.trans second))))

end

/-- Settles O31: the checks refuse, and CS_EXIT is all that is left; the loads pass the cache. -/
theorem populateRefusesWithoutEffect : Obligations.PopulateRefusesWithoutEffect := by
  intro s c buf len first last rest d r about ready configured inv direct hd busControl busStatus why
  have slot : IsSlot s.cfg c d := hd ▸ isSlot_mod about.valid c _
  obtain ⟨key, ls, g, checks, exit⟩ := populate_checks about ready configured inv rfl hd busControl busStatus
  have control : (s.withMasks ls g).afterLoad (d + 0x18) = s.withMasks ls g :=
    afterLoad_slot_direct (s := s.withMasks ls g) direct slot (k := 0x18) (by decide) (by decide)
  have status : (s.withMasks ls g).afterLoad (d + 0x1C) = s.withMasks ls g :=
    afterLoad_slot_direct (s := s.withMasks ls g) direct slot (k := 0x1C) (by decide) (by decide)
  rw [control, status] at checks
  have refused : popCheck s.cfg ⟨c, buf, len, first, last⟩ (s.loadWord (d + 0x18)) (s.loadWord (d + 0x1C)) = r ∧
      r ≠ .ok := by
    rcases why with ⟨rfl, busy⟩ | ⟨rfl, control, status, unfit⟩
    · exact ⟨popCheck_busy _ _ busy, nofun⟩
    · rw [control, status]
      exact ⟨popCheck_unfit unfit, nofun⟩
  have leave : HostRuns ((s.withMasks ls g).poised
        (.cont (.popSts ⟨c, buf, len, first, last⟩ key (((s.ch.get c).pop + 1) % s.cfg.cap.get c)
          (s.loadWord (d + 0x18))) :: rest) (.word (s.loadWord (d + 0x1C))))
      ((s.withMasks ls g).poised (.op (.csExit key) :: .cont (.ret (.code r)) :: rest)
        (.word (s.loadWord (d + 0x1C)))) := by
    refine .cont about.valid ?_ (.inr (by simp))
    obtain ⟨check, notOk⟩ := refused
    have check' : popCheck ((s.withMasks ls g).poised rest (.word (s.loadWord (d + 0x1C)))).cfg
      ⟨c, buf, len, first, last⟩ (s.loadWord (d + 0x18)) (Value.word (s.loadWord (d + 0x1C))).asWord = r := check
    simp only [runPoint, popSts, State.ret_poised, check']
    cases r with
    | ok => exact absurd rfl notOk
    | _ => exact State.push_poised ..
  have out := exit (s.withMasks ls g) (.cont (.ret (.code r)) :: rest) (.word (s.loadWord (d + 0x1C))) (.refl _)
    (.inr (by simp))
  have return_ : HostRuns (s.poised (.cont (.ret (.code r)) :: rest) .unit) (s.poised rest (.code r)) :=
    .ret about.valid about.later
  obtain ⟨n, run, -⟩ := checks.trans (leave.trans (out.trans return_))
  exact ⟨n, _, run, State.code_poised .., State.ret_poised .., rfl, rfl, rfl, rfl, rfl, rfl, rfl, rfl, rfl,
    rfl, rfl, rfl, rfl, rfl, State.poised_interrupted ..⟩

end Sys2Proof.Machine
end

section
/-! The stores into a descriptor's slot, and their publication. -/

namespace Sys2Proof.Machine

/-- Stores into the slot `d`, each at its offset. -/
def slotStores (d : Addr) (ws : List (Nat × Word)) : List SbEntry := ws.map fun w => ⟨d + BitVec.ofNat 64 w.1, w.2⟩

/-- Offsets of different words of a slot. -/
def WordOffsets (ks : List Nat) : Prop := ks.Nodup ∧ ∀ k ∈ ks, k % 4 = 0 ∧ k + 4 ≤ 64

theorem mem_slotStores {d : Addr} {ws : List (Nat × Word)} {e : SbEntry} :
    e ∈ slotStores d ws ↔ ∃ k v, (k, v) ∈ ws ∧ e = ⟨d + BitVec.ofNat 64 k, v⟩ := by
  simp [slotStores, eq_comm]

section
variable {p : Params} {c : Chan} {d : Addr} (slot : IsSlot p c d) {ws : List (Nat × Word)}
  (offsets : WordOffsets (ws.map Prod.fst))
include slot offsets

theorem slotStores_place {e : SbEntry} (he : e ∈ slotStores d ws) :
    ∃ k, (k, e.val) ∈ ws ∧ e.addr = d + BitVec.ofNat 64 k ∧ e.addr.toNat = d.toNat + k ∧ k % 4 = 0 ∧ k + 4 ≤ 64 := by
  obtain ⟨k, v, hk, rfl⟩ := mem_slotStores.1 he
  obtain ⟨aligned, inside⟩ := offsets.2 k (List.mem_map_of_mem hk)
  exact ⟨k, hk, rfl, slot.toNat_add (by omega), aligned, inside⟩

theorem slotStores_aligned {e : SbEntry} (he : e ∈ slotStores d ws) : e.addr.toNat % 4 = 0 := by
  obtain ⟨k, -, place, -, aligned, inside⟩ := slotStores_place slot offsets he
  exact place ▸ slot.word_aligned aligned inside

theorem slotStores_inside {e : SbEntry} (he : e ∈ slotStores d ws) : WordIn d.toNat 64 e.addr := by
  obtain ⟨k, -, place, -, aligned, inside⟩ := slotStores_place slot offsets he
  exact place ▸ slot.word_inside aligned inside

theorem slotStores_accepted (bus : ∀ k w, k < 16 → busResp p (d + BitVec.ofNat 64 (4 * k)) 4 w = .okay) {e : SbEntry}
    (he : e ∈ slotStores d ws) : busResp p e.addr 4 true = .okay := by
  obtain ⟨k, -, place, -, aligned, inside⟩ := slotStores_place slot offsets he
  have accepted := bus (k / 4) true (by omega)
  rwa [Nat.mul_div_cancel' (Nat.dvd_of_mod_eq_zero aligned), ← place] at accepted

theorem storedByte_slotStores (x : Nat) :
    StoredByte (slotStores d ws) x ↔ ∃ k ∈ ws.map Prod.fst, InSpan (d.toNat + k) 4 x := by
  constructor
  · rintro ⟨e, he, hx⟩
    obtain ⟨k, hk, -, place, -⟩ := slotStores_place slot offsets he
    exact ⟨k, List.mem_map_of_mem hk, place ▸ hx⟩
  · rintro ⟨k, hk, hx⟩
    obtain ⟨⟨k, v⟩, hw, rfl⟩ := List.mem_map.1 hk
    refine ⟨_, mem_slotStores.2 ⟨k, v, hw, rfl⟩, ?_⟩
    rwa [slot.toNat_add (by have := (offsets.2 k hk).2; omega)]

theorem sbLookup_slotStores {k : Nat} {v : Word} (h : (k, v) ∈ ws) :
    sbLookup (slotStores d ws) (d + BitVec.ofNat 64 k) = some v := by
  refine sbLookup_of_unique (e := ⟨d + BitVec.ofNat 64 k, v⟩) (mem_slotStores.2 ⟨k, v, h, rfl⟩) fun e he same => ?_
  obtain ⟨j, hj, -, place, -⟩ := slotStores_place slot offsets he
  have inside := (offsets.2 k (List.mem_map_of_mem h)).2
  rw [same, slot.toNat_add (by omega)] at place
  obtain rfl : k = j := by omega
  exact congrArg Prod.snd (List.inj_on_of_nodup_map offsets.1 hj h rfl)

/-- What the slot holds after its update, in memory and as the host sees it. -/
theorem SlotUpdated.stored {buf : Addr} {n : Nat} {s t : State} (h : SlotUpdated c (slotStores d ws) d buf n s t)
    {k : Nat} {v : Word} (hk : (k, v) ∈ ws) :
    t.hostWord (d + BitVec.ofNat 64 k) = v ∧ t.mem.readWord (d + BitVec.ofNat 64 k) = v := by
  obtain ⟨aligned, inside⟩ := offsets.2 k (List.mem_map_of_mem hk)
  exact h.word _ v (slot.word_aligned aligned inside) (sbLookup_slotStores slot offsets hk)

end

/-- The masks are beside the update of a slot. -/
theorem SlotUpdated.of_withMasks {c : Chan} {es : List SbEntry} {d buf : Addr} {n : Nat} {s t : State} {ls : Pair Line}
    {g : Bool} (h : SlotUpdated c es d buf n (s.withMasks ls g) t) : SlotUpdated c es d buf n s t :=
  ⟨h.cfg, h.sound, h.word, h.mem, h.direct, h.seen, h.lines, h.clean⟩

/-- The publication of stores into a slot, after loads from it and on RX the invalidation of a buffer. -/
theorem QuietRuns.publishSlot {c : Chan} {d buf : Addr} {n : Nat} {s t u : State} {ws : List (Nat × Word)}
    (slot : IsSlot s.cfg c d) (offsets : WordOffsets (ws.map Prod.fst)) (loaded : Loaded d s t)
    (dropped : SamePath (t.dropRx c buf n) u) (empty : u.sb = [])
    (bus : ∀ k w, k < 16 → busResp s.cfg (d + BitVec.ofNat 64 (4 * k)) 4 w = .okay) {is : List Item} {v : Value}
    (more : is ≠ []) :
    ∃ w, QuietRuns ((u.withSb (slotStores d ws)).poised (.op .fence :: .op (.dcFlush d 64) :: is) v) (w.poised is .unit) ∧
      PathOnly u w ∧ SlotUpdated c (slotStores d ws) d buf n s w := by
  have cfg : u.cfg = s.cfg := dropped.cfg.trans ((pathOnly_dropRx t c buf n).cfg.trans loaded.only.cfg)
  have sound : PathSound u := dropped.sound (loaded.sound.dropRx c buf n)
  have pub := published sound (cfg ▸ slot.whole) (fun e he => slotStores_aligned slot offsets he)
    fun e he => slotStores_inside slot offsets he
  exact ⟨_, .publish sound.valid empty (fun e he => cfg ▸ slotStores_accepted slot offsets bus he) (.inr more),
    pub.only, slotUpdated slot loaded dropped pub⟩

end Sys2Proof.Machine
end

section
/-! POPULATE of a free slot (43_ring.md R301; 30_encoding.md R161, R163). -/

namespace Sys2Proof.Machine

/-- The words Populate stores, at their offsets. -/
def blockWords (buf : Addr) (app0 ctl : Word) : List (Nat × Word) :=
  [(0x08, lo32 buf), (0x0C, hi32 buf), (0x20, app0), (0x18, ctl)]

theorem wordOffsets_blockWords (buf : Addr) (app0 ctl : Word) :
    WordOffsets ((blockWords buf app0 ctl).map Prod.fst) := by
  change WordOffsets [0x08, 0x0C, 0x20, 0x18]
  exact ⟨by decide, by decide⟩

theorem storedByte_blockWords {p : Params} {c : Chan} {d buf : Addr} (slot : IsSlot p c d) {app0 ctl : Word} (x : Nat) :
    StoredByte (slotStores d (blockWords buf app0 ctl)) x ↔ PopulatedByte d x := by
  rw [storedByte_slotStores slot (wordOffsets_blockWords ..)]
  simp only [blockWords, List.map_cons, List.map_nil, List.mem_cons, List.not_mem_nil, or_false, exists_eq_or_imp,
    exists_eq_left, PopulatedByte, InSpan]
  omega

/-- The four stores of an accepted block. -/
theorem HostRuns.blockStores {s : State} {c : Chan} {d : Addr} (valid : paramsValid s.cfg = true) (empty : s.sb = [])
    (slot : IsSlot s.cfg c d) (buf : Addr) (ctl : Word) {is : List Item} (more : is ≠ []) (v : Value) :
    HostRuns (s.poised (.op (.st32 (d + 0x08) (lo32 buf)) :: .op (.st32 (d + 0x0C) (hi32 buf)) ::
        .app0Store c (d + 0x20) :: .op (.st32 (d + 0x18) ctl) :: is) v)
      ((s.withSb (slotStores d (blockWords buf (s.ch.get c).app0 ctl))).poised is .unit) := by
  have lo := HostRuns.st32 (v := v) valid (slot.word_aligned (k := 0x08) (by decide) (by decide)) (lo32 buf)
    (is := .op (.st32 (d + 0x0C) (hi32 buf)) :: .app0Store c (d + 0x20) :: .op (.st32 (d + 0x18) ctl) :: is)
    (.inr (by simp))
  have hi (b : List SbEntry) := HostRuns.st32 (s := s.withSb b) (v := .unit) valid
    (slot.word_aligned (k := 0x0C) (by decide) (by decide)) (hi32 buf)
    (is := .app0Store c (d + 0x20) :: .op (.st32 (d + 0x18) ctl) :: is) (.inr (by simp))
  have app0 (b : List SbEntry) := HostRuns.app0Store (s := s.withSb b) (v := .unit) valid
    (slot.word_aligned (k := 0x20) (by decide) (by decide)) c (is := .op (.st32 (d + 0x18) ctl) :: is) (.inr (by simp))
  have control (b : List SbEntry) := HostRuns.st32 (s := s.withSb b) (v := .unit) valid
    (slot.word_aligned (k := 0x18) (by decide) (by decide)) ctl (is := is) (.inr more)
  rw [empty] at lo
  exact lo.trans ((hi _).trans ((app0 _).trans (control _)))

/-- The code of an accepted block up to its publication. -/
theorem HostRuns.popStores {s : State} {c : Chan} {d buf : Addr} {ni : Nat} (valid : paramsValid s.cfg = true)
    (empty : s.sb = []) (slot : IsSlot s.cfg c d) (hd : d = descAddr s.cfg c ni) (len : Word) (first last : Bool)
    (key : Key) (rest : List Item) (v : Value) :
    HostRuns (s.poised (popStores s.cfg ⟨c, buf, len, first, last⟩ key ni ++ rest) v)
      (((s.dropRx c buf len.toNat).withSb
          (slotStores d (blockWords buf (s.ch.get c).app0 (controlWord len first last)))).poised
        (.op .fence :: .op (.dcFlush d 64) :: .cont (.popSet c ni) :: .op (.csExit key) :: .cont (.ret (.code .ok)) :: rest)
        .unit) := by
  subst hd
  have only := pathOnly_dropRx s c buf len.toNat
  have slot' : IsSlot (s.dropRx c buf len.toNat).cfg c (descAddr s.cfg c ni) := by rwa [only.cfg]
  have stores (w : Value) := HostRuns.blockStores (s := s.dropRx c buf len.toNat) (only.cfg ▸ valid) (only.sb.trans empty)
    slot' buf (controlWord len first last) (is := .op .fence :: .op (.dcFlush (descAddr s.cfg c ni) 64) ::
      .cont (.popSet c ni) :: .op (.csExit key) :: .cont (.ret (.code .ok)) :: rest) (by simp) w
  rw [only.ch] at stores
  cases c with
  | tx => exact stores v
  | rx => exact (HostRuns.dcInval valid buf len.toNat (.inr (by simp))).trans (stores .unit)

/-- The end of an accepted block: the cursor moves, the masks are put back, and OK is returned. -/
theorem HostRuns.popEnds {s u : State} {c : Chan} {key : Key} {ls : Pair Line} {g : Bool}
    (valid : paramsValid s.cfg = true)
    (exit : ∀ u is v, Alike (s.withMasks ls g) u → (u.irqs = [] ∨ is ≠ []) →
      HostRuns (u.poised (.op (.csExit key) :: is) v) ((u.withMasks s.lines s.gie).poised is .unit))
    (only : PathOnly (s.withMasks ls g) u) (ni : Nat) {rest : List Item} (later : s.irqs = [] ∨ rest ≠ []) :
    HostRuns (u.poised (.cont (.popSet c ni) :: .op (.csExit key) :: .cont (.ret (.code .ok)) :: rest) .unit)
      (((u.setRec c { s.ch.get c with pop := ni }).withMasks s.lines s.gie).poised rest (.code .ok)) := by
  have valid' : paramsValid u.cfg = true := only.cfg ▸ valid
  have moved : HostRuns (u.poised (.cont (.popSet c ni) :: .op (.csExit key) :: .cont (.ret (.code .ok)) :: rest) .unit)
      ((u.setRec c { s.ch.get c with pop := ni }).poised (.op (.csExit key) :: .cont (.ret (.code .ok)) :: rest) .unit) := by
    refine .cont valid' ?_ (.inr (by simp))
    have ch : u.ch = s.ch := only.ch
    simp only [runPoint, popSet, State.poised_ch, ch]
    rfl
  have out := exit (u.setRec c { s.ch.get c with pop := ni }) (.cont (.ret (.code .ok)) :: rest) .unit
    (only.alike.trans (alike_setRec ..)) (.inr (by simp))
  exact moved.trans (out.trans (.ret valid' (only.irqs ▸ later)))

section
variable {s : State} {c : Chan} {buf : Addr} {len : Word} {first last : Bool} {rest : List Item}
  (about : AboutTo s (.populate (chanNum c) buf len first last) rest) (ready : s.ctl = .ready)
  (configured : (s.ch.get c).configured = true) (inv : Inv s) (empty : s.sb = []) {ni : Nat} {d : Addr}
  (hni : ni = ((s.ch.get c).pop + 1) % s.cfg.cap.get c) (hd : d = descAddr s.cfg c ni)
  (bus : ∀ k w, k < 16 → busResp s.cfg (d + BitVec.ofNat 64 (4 * k)) 4 w = .okay) (free : SlotFree s d)
  (fits : BlockFits s.cfg c buf len)
include about ready configured inv empty hni hd bus free fits

/-- A quiet run of POPULATE on a free slot updates the slot and the cursor, its masks put back. -/
theorem populate_runs : ∃ ls g u,
    QuietRuns s (((u.setRec c { s.ch.get c with pop := ni }).withMasks s.lines s.gie).poised rest (.code .ok)) ∧
    PathOnly (s.withMasks ls g) u ∧
    SlotUpdated c (slotStores d (blockWords buf (s.ch.get c).app0 (controlWord len first last))) d buf len.toNat s u := by
  have slot : IsSlot s.cfg c d := by
    rw [hd, hni]
    exact isSlot_mod about.valid c _
  obtain ⟨key, ls, g, checks, exit⟩ := populate_checks about ready configured inv hni hd (bus 6 false (by decide))
    (bus 7 false (by decide))
  obtain ⟨control, status⟩ := free
  rw [control, status] at checks
  have sound := inv.pathSound about.valid
  have masked : PathSound (s.withMasks ls g) := ⟨sound.valid, sound.memory, sound.cache⟩
  have first_ : Loaded d (s.withMasks ls g) ((s.withMasks ls g).afterLoad (d + 0x18)) :=
    loaded_afterLoad masked slot (k := 0x18) (by decide) (by decide)
  have second : Loaded d ((s.withMasks ls g).afterLoad (d + 0x18))
      (((s.withMasks ls g).afterLoad (d + 0x18)).afterLoad (d + 0x1C)) :=
    loaded_afterLoad first_.sound (c := c) (first_.only.cfg ▸ slot) (k := 0x1C) (by decide) (by decide)
  have loaded := first_.trans second
  generalize ((s.withMasks ls g).afterLoad (d + 0x18)).afterLoad (d + 0x1C) = t at checks loaded
  have cfg : t.cfg = s.cfg := loaded.only.cfg
  have sb : t.sb = [] := loaded.only.sb.trans empty
  have accept : HostRuns (t.poised (.cont (.popSts ⟨c, buf, len, first, last⟩ key ni 0) :: rest) (.word 0))
      (t.poised (popStores t.cfg ⟨c, buf, len, first, last⟩ key ni ++ rest) (.word 0)) := by
    refine .cont (cfg ▸ about.valid) ?_ (.inr (by cases c <;> simp [popStores]))
    have check : popCheck t.cfg ⟨c, buf, len, first, last⟩ 0 0 = .ok := popCheck_fits (by rwa [cfg])
    simp only [runPoint, popSts, State.ret_poised, Value.asWord, State.poised_cfg, check, State.push_poised]
  have stores := HostRuns.popStores (buf := buf) (cfg ▸ about.valid) sb (cfg ▸ slot) (cfg ▸ hd) len first last key rest
    (.word 0)
  obtain ⟨u, publish, only, updated⟩ := QuietRuns.publishSlot (s := s.withMasks ls g) (v := .unit) (n := len.toNat) slot
    (wordOffsets_blockWords buf (s.ch.get c).app0 (controlWord len first last)) loaded
    (dropped := ⟨rfl, rfl, rfl⟩) ((pathOnly_dropRx t c buf len.toNat).sb.trans sb) bus
    (is := .cont (.popSet c ni) :: .op (.csExit key) :: .cont (.ret (.code .ok)) :: rest) (by simp)
  have whole : PathOnly (s.withMasks ls g) u := loaded.only.trans ((pathOnly_dropRx t c buf len.toNat).trans only)
  refine ⟨ls, g, u, ?_, whole, updated.of_withMasks⟩
  rw [show (s.ch.get c).app0 = (t.ch.get c).app0 by rw [loaded.only.ch]; rfl] at publish
  exact (checks.trans (accept.trans stores)).quiet.trans
    (publish.trans (HostRuns.popEnds about.valid exit whole ni about.later).quiet)

end

theorem PathOnly.setRec_ch {s t : State} (h : PathOnly s t) (c : Chan) (r : Record) :
    (t.setRec c r).ch = s.ch.set c r := by
  rw [← h.ch]
  rfl

/-- The words of a populated slot, in memory and as the host loads them. -/
theorem SlotUpdated.block {c : Chan} {d buf : Addr} {n : Nat} {app0 ctl : Word} {s t : State} (slot : IsSlot s.cfg c d)
    (h : SlotUpdated c (slotStores d (blockWords buf app0 ctl)) d buf n s t) {word : Addr → Word}
    (source : word = t.mem.readWord ∨ word = t.hostWord) :
    word (d + 0x08) = lo32 buf ∧ word (d + 0x0C) = hi32 buf ∧ word (d + 0x20) = app0 ∧ word (d + 0x18) = ctl := by
  have stored {k : Nat} {v : Word} (hk : (k, v) ∈ blockWords buf app0 ctl) : word (d + BitVec.ofNat 64 k) = v := by
    obtain ⟨view, memory⟩ := h.stored slot (wordOffsets_blockWords buf app0 ctl) hk
    rcases source with rfl | rfl
    · exact memory
    · exact view
  exact ⟨stored (by simp [blockWords]), stored (by simp [blockWords]), stored (by simp [blockWords]),
    stored (by simp [blockWords])⟩

/-- Settles O30: the run of POPULATE on a free slot; in COHERENT mode the words loaded are memory's. -/
theorem populateWritesTheDescriptor : Obligations.PopulateWritesTheDescriptor := by
  constructor
  · intro s c buf len first last rest ni d about ready configured inv coherent empty hni hd bus control status size
    have slot : IsSlot s.cfg c d := by
      rw [hd, hni]
      exact isSlot_mod about.valid c _
    have view (a : Addr) : s.loadWord a = s.mem.readWord a :=
      (loadWord_of_empty empty a).trans (State.hostWord_coherent coherent a)
    have fits : BlockFits s.cfg c buf len := ⟨by omega, fun _ nc => by rw [coherent] at nc; cases nc⟩
    obtain ⟨ls, g, u, ⟨n, run⟩, only, updated⟩ := populate_runs about ready configured inv empty hni hd bus
      ⟨(view _).trans control, (view _).trans status⟩ fits
    have alike := only.alike
    have frame : SameAround s (((u.setRec c { s.ch.get c with pop := ni }).withMasks s.lines s.gie).poised rest
      (.code .ok)) := (alike.trans (alike_setRec u c _)).around rest _
    obtain ⟨lo, hi, app0, ctl⟩ := updated.block slot (.inl rfl)
    refine ⟨n, _, run, State.code_poised .., State.ret_poised .., alike.sb.trans empty, lo, hi, app0, ctl, fun x h1 h2 h3 =>
      updated.direct (.inl coherent) x (mt (storedByte_blockWords slot x).1 ?_), ?_, alike.eng, rfl, rfl,
      congrArg Parts.cblog only.parts, frame.logs, frame.cfg, frame.rstBusy, frame.ctl, frame.outs,
      updated.cache (inv.pathSound about.valid) coherent, frame.interrupted⟩
    · unfold PopulatedByte InSpan
      omega
    · exact only.setRec_ch c _
  · intro s c buf len first last rest ni d about ready configured inv empty hni hd bus free fits
    have slot : IsSlot s.cfg c d := by
      rw [hd, hni]
      exact isSlot_mod about.valid c _
    obtain ⟨ls, g, u, ⟨n, run⟩, only, updated⟩ := populate_runs about ready configured inv empty hni hd bus free fits
    have alike := only.alike
    have sb : u.sb = [] := alike.sb.trans empty
    have loads : u.loadWord = u.hostWord := funext (loadWord_of_empty sb)
    have holds {word : Addr → Word} (source : word = u.mem.readWord ∨ word = u.hostWord) :
        HoldsBlock word d buf (s.ch.get c).app0 (controlWord len first last) := by
      obtain ⟨lo, hi, app0, ctl⟩ := updated.block slot source
      exact ⟨by rw [lo, hi, hi32_append_lo32], app0, ctl⟩
    have unstored {x : Nat} (h : ¬ PopulatedByte d x) :
        ¬ StoredByte (slotStores d (blockWords buf (s.ch.get c).app0 (controlWord len first last))) x :=
      mt (storedByte_blockWords slot x).1 h
    exact ⟨n, _, run, State.code_poised .., State.ret_poised .., sb, holds (.inl rfl), holds (.inr loads), updated.mem,
      fun direct x h => updated.direct direct x (unstored h), fun x h => updated.seen x (unstored h), updated.lines,
      updated.clean, only.setRec_ch c _, alike.eng, congrArg Parts.cblog only.parts,
      (alike.trans (alike_setRec u c _)).around rest _⟩

end Sys2Proof.Machine
end

section
/-! RECLAIM up to a descriptor's STATUS, and its end at an unfinished one (43_ring.md R302; 10_state.md R70). -/

namespace Sys2Proof.Machine

/-- The code of Reclaim before the STATUS load of the slot `d`, `count` descriptors having been reclaimed. -/
def headCode (c : Chan) (key : Key) (count : Nat) (d : Addr) (rest : List Item) : List Item :=
  .op (.ld32 (d + 0x1C)) :: .cont (.rcSts c key count d) :: rest

theorem rcHead_poised (c : Chan) (key : Key) (count : Nat) (s : State) (is : List Item) (v : Value) :
    rcHead c key count (s.poised is v) =
      s.poised (headCode c key count (descAddr s.cfg c (s.ch.get c).cmp) is) v :=
  State.push_poised ..

/-- RECLAIM masks and comes to the slot at `cmp`. -/
theorem reclaim_enters {s : State} {c : Chan} {rest : List Item} (about : AboutTo s (.reclaim (chanNum c)) rest)
    (ready : s.ctl = .ready) (configured : (s.ch.get c).configured = true) (inv : Inv s) :
    ∃ key ls g,
      HostRuns s ((s.withMasks ls g).poised (headCode c key 0 (descAddr s.cfg c (s.ch.get c).cmp) rest) (.key key)) ∧
      ∀ u is v, Alike (s.withMasks ls g) u → (u.irqs = [] ∨ is ≠ []) →
        HostRuns (u.poised (.op (.csExit key) :: is) v) ((u.withMasks s.lines s.gie).poised is .unit) := by
  obtain ⟨-, -, irq, -⟩ := recordLegal_iff.1 (inv.records c)
  obtain ⟨key, ls, g, enter, exit⟩ := critical_section about.valid irq
  refine ⟨key, ls, g, ?_, exit⟩
  have called := HostRuns.call about rfl ((withReady_ready (s := s.poised rest s.ret) ready c _).trans
    (whenConfigured_configured configured _)) (List.cons_ne_nil _ _)
  have first : HostRuns ((s.withMasks ls g).poised (.cont (.rcKey c) :: rest) (.key key))
      ((s.withMasks ls g).poised (headCode c key 0 (descAddr s.cfg c (s.ch.get c).cmp) rest) (.key key)) := by
    refine .cont about.valid ?_ (.inr (by simp [headCode]))
    simp only [runPoint, State.ret_poised, Value.asKey]
    exact rcHead_poised c key 0 (s.withMasks ls g) rest (.key key)
  exact called.trans ((enter _ _ (.inr (by simp))).trans first)

/-- Reclaim's load of STATUS. -/
theorem HostRuns.loadStatus {s : State} (sound : PathSound s) {c : Chan} {d : Addr} (slot : IsSlot s.cfg c d)
    (bus : busResp s.cfg (d + 0x1C) 4 false = .okay) (key : Key) (count : Nat) (rest : List Item) (v : Value) :
    HostRuns (s.poised (headCode c key count d rest) v)
      ((s.afterLoad (d + 0x1C)).poised (.cont (.rcSts c key count d) :: rest) (.word (s.loadWord (d + 0x1C)))) :=
  .loadSlot sound slot (k := 0x1C) (by decide) (by decide) bus (by simp) v

/-- The end of a pass: the slot is unfinished, the masks are put back, and the count is returned. -/
theorem HostRuns.reclaimEnds {s u : State} {c : Chan} {d : Addr} {key : Key} {ls : Pair Line} {g : Bool}
    (exit : ∀ u is v, Alike (s.withMasks ls g) u → (u.irqs = [] ∨ is ≠ []) →
      HostRuns (u.poised (.op (.csExit key) :: is) v) ((u.withMasks s.lines s.gie).poised is .unit))
    (alike : Alike (s.withMasks ls g) u) (sound : PathSound u) (slot : IsSlot u.cfg c d)
    (bus : busResp u.cfg (d + 0x1C) 4 false = .okay) (unfinished : (u.loadWord (d + 0x1C)).extractLsb' 26 6 = 0)
    (count : Nat) {rest : List Item} (later : s.irqs = [] ∨ rest ≠ []) (v : Value) :
    HostRuns (u.poised (headCode c key count d rest) v)
      (((u.afterLoad (d + 0x1C)).withMasks s.lines s.gie).poised rest (.count count)) := by
  have only := pathOnly_afterLoad u (d + 0x1C)
  have valid : paramsValid (u.afterLoad (d + 0x1C)).cfg = true := only.cfg ▸ sound.valid
  have ends : HostRuns
      ((u.afterLoad (d + 0x1C)).poised (.cont (.rcSts c key count d) :: rest) (.word (u.loadWord (d + 0x1C))))
      ((u.afterLoad (d + 0x1C)).poised (.op (.csExit key) :: .cont (.ret (.count count)) :: rest)
        (.word (u.loadWord (d + 0x1C)))) := by
    refine .cont valid ?_ (.inr (by simp))
    have notFinished : finishedStatus (u.loadWord (d + 0x1C)) = false :=
      Bool.eq_false_iff.2 fun h => (finishedStatus_iff _).1 h unfinished
    simp only [runPoint, rcSts, State.ret_poised, Value.asWord, notFinished]
    exact State.push_poised ..
  have out := exit (u.afterLoad (d + 0x1C)) (.cont (.ret (.count count)) :: rest) (.word (u.loadWord (d + 0x1C)))
    (alike.trans only.alike) (.inr (by simp))
  have later' : (u.afterLoad (d + 0x1C)).irqs = [] ∨ rest ≠ [] := by
    rw [only.irqs, alike.irqs]
    exact later
  exact (HostRuns.loadStatus sound slot bus key count rest v).trans (ends.trans (out.trans (.ret valid later')))

/-- Settles O32: the pass ends at its first descriptor; the load passes the cache. -/
theorem reclaimStopsAtAnUnfinishedDescriptor : Obligations.ReclaimStopsAtAnUnfinishedDescriptor := by
  intro s c rest d about ready configured inv direct hd bus unfinished
  obtain ⟨-, cap, -, -, cmp⟩ := recordLegal_iff.1 (inv.records c)
  have slot : IsSlot s.cfg c d := hd ▸ isSlot_descAddr about.valid (cap ▸ cmp)
  obtain ⟨key, ls, g, enter, exit⟩ := reclaim_enters about ready configured inv
  rw [← hd] at enter
  have masked : PathSound (s.withMasks ls g) := ⟨about.valid, inv.memory, inv.cache⟩
  have ends := HostRuns.reclaimEnds exit (.refl _) masked slot bus unfinished 0 about.later (.key key)
  rw [show (s.withMasks ls g).afterLoad (d + 0x1C) = s.withMasks ls g from
    afterLoad_slot_direct (s := s.withMasks ls g) direct slot (k := 0x1C) (by decide) (by decide)] at ends
  obtain ⟨n, run, -⟩ := enter.trans ends
  exact ⟨n, _, run, State.code_poised .., State.ret_poised .., rfl, rfl, rfl, rfl, rfl, rfl, rfl, rfl, rfl, rfl, rfl, rfl,
    rfl, rfl, State.poised_interrupted ..⟩

end Sys2Proof.Machine
end

section
/-! RECLAIM of one finished descriptor (43_ring.md R302, R306; 30_encoding.md R162 to R164; 60_exceptions.md R405). -/

namespace Sys2Proof.Machine

/-! What the words of the slot say. -/

theorem bne_zero (w : Word) : (w != 0) = decide (w ≠ 0) := by
  rw [Bool.eq_iff_iff, bne_iff_ne, decide_eq_true_iff]

/-- The error flags of STATUS are bits 30:28 (R162). -/
theorem errStatus_eq (sts : Word) : errStatus sts = decide (sts.extractLsb' 28 3 ≠ 0) := by
  have mask (i : Nat) : errMask.getLsbD i = (decide (28 ≤ i) && decide (i < 31)) := by
    have ones : errMask = (BitVec.allOnes 3 ++ 0#28).setWidth 32 := rfl
    rw [ones, BitVec.getLsbD_setWidth, BitVec.getLsbD_append, BitVec.getLsbD_allOnes, BitVec.getLsbD_zero]
    grind
  have flags : sts &&& errMask = (0#1 ++ sts.extractLsb' 28 3) ++ 0#28 := by
    apply BitVec.eq_of_getLsbD_eq
    intro i hi
    rw [BitVec.getLsbD_and, mask, BitVec.getLsbD_append, BitVec.getLsbD_append, BitVec.getLsbD_extractLsb']
    grind
  have none_ : (sts &&& errMask = 0) ↔ sts.extractLsb' 28 3 = 0 := by
    rw [flags]
    exact (BitVec.append_left_inj (s₂ := 0#1 ++ 0#3) 0#28).trans (BitVec.append_right_inj (t₂ := 0#3) 0#1)
  rw [errStatus, bne_zero, decide_eq_decide]
  exact not_congr none_

/-- The inspected checksum word is one of the application words, in the slot. -/
theorem csumWord_small {p : Params} (valid : paramsValid p = true) : p.csumWord ≤ 4 := by
  simp only [paramsValid, Bool.and_eq_true, decide_eq_true_eq] at valid
  tauto

/-- What the host sees of a finished slot: its STATUS, the buffer it names, and whether the callback gets RES_FAULT. -/
structure SlotView (s : State) (c : Chan) (d buf : Addr) (sts : Word) (fault : Bool) : Prop where
  status : s.loadWord (d + 0x1C) = sts
  buffer : s.loadWord (d + 0x0C) ++ s.loadWord (d + 0x08) = buf
  result : fault = (decide (sts.extractLsb' 28 3 ≠ 0) || ((s.ch.get c).csumChk &&
    decide (s.loadWord (d + BitVec.ofNat 64 (0x20 + 4 * s.cfg.csumWord)) &&& csumMask s.cfg ≠ 0)))

/-! The code. -/

/-- The call of a callback, if there is one. -/
def callbackCode (c : Chan) (cb : Option Nat) (fault : Bool) : List Item :=
  cb.toList.map fun _ => .op (.callback (chanNum c) (if fault then .fault else .ok))

/-- The clearing of a reclaimed slot, and what follows it. -/
def clearCode (c : Chan) (key : Key) (count : Nat) (d : Addr) (rest : List Item) : List Item :=
  .op (.st32 (d + 0x18) 0) :: .op (.st32 (d + 0x1C) 0) :: .op .fence :: .op (.dcFlush d 64) ::
    .cont (.rcNext c key count) :: rest

/-- The code after the STATUS and the checksum word are known. -/
def bufferCode (c : Chan) (key : Key) (count : Nat) (d : Addr) (sts : Word) (cb : Option Nat) (fault : Bool)
    (rest : List Item) : List Item :=
  match c with
  | .tx => callbackCode .tx cb fault ++ clearCode .tx key count d rest
  | .rx => .op (.ld32 (d + 0x0C)) :: .cont (.rcBufHi .rx key count d sts fault) :: rest

section
variable (c : Chan) (key : Key) (count : Nat) (d : Addr) (fault : Bool) (s : State) (is : List Item) (v : Value)

theorem rcTail_poised : rcTail c key count d fault (s.poised is v) =
    s.poised (callbackCode c (s.ch.get c).cb fault ++ clearCode c key count d is) v := by
  rw [rcTail, State.push_poised, State.poised_ch]
  cases (s.ch.get c).cb <;> rfl

theorem rcBuf_poised (sts : Word) : rcBuf c key count d sts fault (s.poised is v) =
    s.poised (bufferCode c key count d sts (s.ch.get c).cb fault is) v := by
  cases c with
  | tx => exact rcTail_poised ..
  | rx => exact State.push_poised ..

theorem bufferCode_ne_nil (sts : Word) (cb : Option Nat) : bufferCode c key count d sts cb fault is ≠ [] := by
  cases c <;> simp [bufferCode, clearCode]

end

/-! The steps. -/

section
variable {s : State} {c : Chan} {d buf : Addr} {sts : Word} {fault : Bool} (sound : PathSound s)
  (slot : IsSlot s.cfg c d) (bus : ∀ k w, k < 16 → busResp s.cfg (d + BitVec.ofNat 64 (4 * k)) 4 w = .okay)
  (view : SlotView s c d buf sts fault)
include sound slot bus view

/-- A finished STATUS, and the checksum word where it is inspected, decide the result. -/
theorem HostRuns.judge (finished : sts.extractLsb' 26 6 ≠ 0) (key : Key) (count : Nat) (rest : List Item) :
    ∃ t w, HostRuns (s.poised (.cont (.rcSts c key count d) :: rest) (.word sts))
      (t.poised (bufferCode c key count d sts (s.ch.get c).cb fault rest) w) ∧ Loaded d s t := by
  have result := view.result
  have flagged : finishedStatus sts = true := (finishedStatus_iff sts).2 finished
  cases chk : (s.ch.get c).csumChk with
  | false =>
    refine ⟨s, .word sts, .cont sound.valid ?_ (.inr (bufferCode_ne_nil c key count d fault rest sts _)), .refl d sound⟩
    simp only [chk, Bool.false_and, Bool.or_false, ← errStatus_eq] at result
    simp only [runPoint, rcSts, State.ret_poised, Value.asWord, State.poised_ch, flagged, chk, ← result]
    exact rcBuf_poised ..
  | true =>
    have small := csumWord_small sound.valid
    have aligned : (0x20 + 4 * s.cfg.csumWord) % 4 = 0 := by omega
    have accepted := bus (8 + s.cfg.csumWord) false (by omega)
    rw [Nat.mul_add] at accepted
    have loaded := loaded_afterLoad sound slot aligned (by omega)
    have load := HostRuns.loadSlot sound slot aligned (by omega) accepted
      (is := .cont (.rcCsum c key count d sts (errStatus sts)) :: rest) (by simp) (.word sts)
    have ask : HostRuns (s.poised (.cont (.rcSts c key count d) :: rest) (.word sts))
        (s.poised (.op (.ld32 (d + BitVec.ofNat 64 (0x20 + 4 * s.cfg.csumWord))) ::
          .cont (.rcCsum c key count d sts (errStatus sts)) :: rest) (.word sts)) := by
      refine .cont sound.valid ?_ (.inr (by simp))
      simp only [runPoint, rcSts, State.ret_poised, Value.asWord, State.poised_ch, flagged, chk]
      exact State.push_poised ..
    refine ⟨_, _, ask.trans (load.trans (.cont (w := .word (s.loadWord (d + BitVec.ofNat 64 (0x20 + 4 * s.cfg.csumWord))))
      loaded.sound.valid ?_ (.inr (bufferCode_ne_nil c key count d fault rest sts _)))), loaded⟩
    simp only [chk, Bool.true_and] at result
    simp only [runPoint, rcCsum, State.ret_poised, Value.asWord, State.poised_cfg, loaded.only.cfg, errStatus_eq, bne_zero]
    rw [← result, rcBuf_poised, loaded.only.ch]

end

/-- The record of a channel after a descriptor's length is noted: on RX only (R302). -/
def Record.noted (r : Record) (c : Chan) (sts : Word) : Record :=
  { r with lastRx := if c = .rx then lenField sts else r.lastRx }

theorem State.setRec_noted_tx (s : State) (sts : Word) : s.setRec .tx ((s.ch.get .tx).noted .tx sts) = s := by
  rw [State.setRec, show (s.ch.get .tx).noted .tx sts = s.ch.get .tx from rfl, Pair.set_get]

section
variable {s : State} {c : Chan} {d buf : Addr} (sound : PathSound s) (slot : IsSlot s.cfg c d)
  (bus : ∀ k w, k < 16 → busResp s.cfg (d + BitVec.ofNat 64 (4 * k)) 4 w = .okay)
  (buffer : s.loadWord (d + 0x0C) ++ s.loadWord (d + 0x08) = buf) (key : Key) (count : Nat) (sts : Word) (fault : Bool)
  (rest : List Item) (v : Value)
include sound slot bus buffer

/-- The loads of the buffer's address, in a run on RX. -/
theorem HostRuns.loadPointer :
    ∃ t w, HostRuns (s.poised (.op (.ld32 (d + 0x0C)) :: .cont (.rcBufHi .rx key count d sts fault) :: rest) v)
      (t.poised (.op (.dcInval buf (lenField sts).toNat) :: .cont (.rcRx .rx key count d sts fault) :: rest) w) ∧
      Loaded d s t := by
  have high : Loaded d s (s.afterLoad (d + 0x0C)) := loaded_afterLoad sound slot (k := 0x0C) (by decide) (by decide)
  have slot' : IsSlot (s.afterLoad (d + 0x0C)).cfg c d := by rwa [high.only.cfg]
  have low : Loaded d (s.afterLoad (d + 0x0C)) ((s.afterLoad (d + 0x0C)).afterLoad (d + 0x08)) :=
    loaded_afterLoad high.sound slot' (k := 0x08) (by decide) (by decide)
  have loadHigh := HostRuns.loadSlot sound slot (k := 0x0C) (by decide) (by decide) (bus 3 false (by decide))
    (is := .cont (.rcBufHi .rx key count d sts fault) :: rest) (by simp) v
  have loadLow := HostRuns.loadSlot high.sound slot' (k := 0x08) (by decide) (by decide)
    (high.only.cfg ▸ bus 2 false (by decide))
    (is := .cont (.rcBufLo .rx key count d sts fault (s.loadWord (d + 0x0C))) :: rest) (by simp)
    (.word (s.loadWord (d + 0x0C)))
  rw [high.loadWord] at loadLow
  have ask : HostRuns ((s.afterLoad (d + 0x0C)).poised (.cont (.rcBufHi .rx key count d sts fault) :: rest)
        (.word (s.loadWord (d + 0x0C))))
      ((s.afterLoad (d + 0x0C)).poised (.op (.ld32 (d + 0x08)) ::
        .cont (.rcBufLo .rx key count d sts fault (s.loadWord (d + 0x0C))) :: rest) (.word (s.loadWord (d + 0x0C)))) := by
    refine .cont high.sound.valid ?_ (.inr (by simp))
    simp only [runPoint, rcBufHi, State.ret_poised, Value.asWord]
    exact State.push_poised ..
  refine ⟨_, _, loadHigh.trans (ask.trans (loadLow.trans (.cont (w := .word (s.loadWord (d + 0x08))) low.sound.valid ?_
    (.inr (by simp))))), high.trans low⟩
  simp only [runPoint, rcBufLo, State.ret_poised, Value.asWord]
  rw [joinPtr, show s.loadWord (d + 0x0C) ++ s.loadWord (d + BitVec.ofNat 64 0x08) = buf from buffer]
  exact State.push_poised ..

/-- On RX the buffer's address is loaded, its lines are dropped, and the length is noted. -/
theorem HostRuns.takeBuffer :
    ∃ t w, HostRuns (s.poised (bufferCode c key count d sts (s.ch.get c).cb fault rest) v)
      (((t.dropRx c buf (lenField sts).toNat).setRec c ((s.ch.get c).noted c sts)).poised
        (callbackCode c (s.ch.get c).cb fault ++ clearCode c key count d rest) w) ∧ Loaded d s t := by
  cases c with
  | tx =>
    refine ⟨s, v, ?_, .refl d sound⟩
    rw [show s.dropRx .tx buf (lenField sts).toNat = s from rfl, State.setRec_noted_tx]
    exact .refl _
  | rx =>
    obtain ⟨t, w, pointer, loaded⟩ := HostRuns.loadPointer sound slot bus buffer key count sts fault rest v
    have drop := HostRuns.dcInval loaded.sound.valid (v := w) buf (lenField sts).toNat
      (is := .cont (.rcRx .rx key count d sts fault) :: rest) (.inr (by simp))
    have only := pathOnly_dropRx t .rx buf (lenField sts).toNat
    refine ⟨t, .unit, pointer.trans (drop.trans (.cont (s := t.dropRx .rx buf (lenField sts).toNat)
      (only.cfg ▸ loaded.sound.valid) ?_ (.inr (by simp [clearCode])))), loaded⟩
    have ch : (t.dropRx .rx buf (lenField sts).toNat).ch = s.ch := only.ch.trans loaded.only.ch
    simp only [runPoint, rcRx, State.poised_ch, ch]
    refine (rcTail_poised .rx key count d fault
      ((t.dropRx .rx buf (lenField sts).toNat).setRec .rx ((s.ch.get .rx).noted .rx sts)) rest .unit).trans ?_
    rw [State.setRec_ch, Pair.get_set_self]
    rfl

end

end Sys2Proof.Machine
end

section
/-! RECLAIM of one finished descriptor: the callback, the clearing and the cursor (43_ring.md R302; 41_host_primitives.md
R231). -/

namespace Sys2Proof.Machine

/-- The entry of the callback log, if there is a callback. -/
def callbackEntries (c : Chan) (r : Record) (fault : Bool) : List CbEntry :=
  r.cb.toList.map fun _ => ⟨c, r.ud, if fault then .fault else .ok⟩

/-- The state after a descriptor's callback, if there is one. -/
def State.calledBack (s : State) (c : Chan) (fault : Bool) : State :=
  if (s.ch.get c).cb = none then s else (s.logCallback c (if fault then .fault else .ok)).takeBody

section
variable (s : State) (c : Chan) (fault : Bool)

theorem samePath_calledBack : SamePath s (s.calledBack c fault) := by
  unfold State.calledBack
  split <;> exact ⟨rfl, rfl, rfl⟩

theorem alike_calledBack : Alike s (s.calledBack c fault) := by
  unfold State.calledBack
  split <;> exact ⟨rfl, rfl, rfl, rfl, rfl, rfl, rfl, rfl, rfl, rfl⟩

@[simp] theorem State.calledBack_ch : (s.calledBack c fault).ch = s.ch := by
  unfold State.calledBack
  split <;> rfl

theorem State.calledBack_cblog : (s.calledBack c fault).cblog = s.cblog ++ callbackEntries c (s.ch.get c) fault := by
  rw [State.calledBack, callbackEntries]
  cases (s.ch.get c).cb with
  | none => simp
  | some _ => rfl

theorem State.calledBack_bodies :
    (s.calledBack c fault).bodies = if (s.ch.get c).cb = none then s.bodies else s.bodies.drop 1 := by
  rw [State.calledBack]
  split <;> rfl

end

/-- A callback with an empty body. -/
theorem HostRuns.callback {s : State} (valid : paramsValid s.cfg = true) (c : Chan) (fault : Bool)
    (body : (s.ch.get c).cb = none ∨ ∃ bs, s.bodies = [] :: bs) {is : List Item} (more : is ≠ []) (v : Value) :
    ∃ w, HostRuns (s.poised (callbackCode c (s.ch.get c).cb fault ++ is) v) ((s.calledBack c fault).poised is w) := by
  rw [State.calledBack]
  cases cb : (s.ch.get c).cb with
  | none =>
    rw [if_pos rfl]
    exact ⟨v, .refl _⟩
  | some f =>
    rw [if_neg nofun]
    obtain ⟨bs, empty⟩ := body.resolve_left (by simp [cb])
    refine ⟨.unit, .op valid nofun nofun ((exec_callback (s.poised is v) c _).trans ?_) (.inr more)⟩
    have nothing : (s.poised is v).nextBody = [] := State.nextBody_given empty
    rw [nothing]
    exact congrArg _ ((congrArg (State.push · []) (State.answer_poised (s.logCallback c _).takeBody is v .unit)).trans
      (State.push_poised ..))

/-- The words Reclaim stores, at their offsets. -/
def clearWords : List (Nat × Word) := [(0x18, 0), (0x1C, 0)]

theorem wordOffsets_clearWords : WordOffsets (clearWords.map Prod.fst) := by
  change WordOffsets [0x18, 0x1C]
  exact ⟨by decide, by decide⟩

theorem storedByte_clearWords {p : Params} {c : Chan} {d : Addr} (slot : IsSlot p c d) (x : Nat) :
    StoredByte (slotStores d clearWords) x ↔ InSpan (d.toNat + 0x18) 8 x := by
  rw [storedByte_slotStores slot wordOffsets_clearWords]
  simp only [clearWords, List.map_cons, List.map_nil, List.mem_cons, List.not_mem_nil, or_false, exists_eq_or_imp,
    exists_eq_left, InSpan]
  omega

/-- The record of a channel after a descriptor is reclaimed. -/
def Record.passed (r : Record) (c : Chan) (sts : Word) : Record := { r.noted c sts with cmp := (r.cmp + 1) % r.cap }

/-- One iteration of Reclaim, from `s` to `t`. -/
structure Reclaimed (c : Chan) (d buf : Addr) (sts : Word) (fault : Bool) (s t : State) : Prop where
  alike : Alike s t
  slot : SlotUpdated c (slotStores d clearWords) d buf (lenField sts).toNat s t
  ch : t.ch = s.ch.set c ((s.ch.get c).passed c sts)
  cblog : t.cblog = s.cblog ++ callbackEntries c (s.ch.get c) fault
  bodies : t.bodies = if (s.ch.get c).cb = none then s.bodies else s.bodies.drop 1

/-- An update beside memory and the cache leaves the update of a slot. -/
theorem SlotUpdated.samePath {c : Chan} {es : List SbEntry} {d buf : Addr} {n : Nat} {s t u : State}
    (h : SlotUpdated c es d buf n s t) (same : SamePath t u) : SlotUpdated c es d buf n s u := by
  have view : u.hostWord = t.hostWord := funext fun a => hostWord_congr fun k _ => same.hostByte _
  refine ⟨same.cfg.trans h.cfg, same.sound h.sound, ?_, ?_, ?_, fun x other => ?_, ?_, ?_⟩
  · rw [view, same.mem]
    exact h.word
  · rw [same.mem]
    exact h.mem
  · rw [same.mem]
    exact h.direct
  · rw [same.hostByte]
    exact h.seen x other
  · rw [same.cache]
    exact h.lines
  · rw [same.cache]
    exact h.clean

/-- The cursor moves on, and the next STATUS is at hand. -/
theorem HostRuns.next {s : State} (valid : paramsValid s.cfg = true) (c : Chan) (key : Key) (count : Nat)
    (rest : List Item) (v : Value) :
    HostRuns (s.poised (.cont (.rcNext c key count) :: rest) v)
      ((s.setRec c { s.ch.get c with cmp := ((s.ch.get c).cmp + 1) % (s.ch.get c).cap }).poised
        (headCode c key (count + 1) (descAddr s.cfg c (((s.ch.get c).cmp + 1) % (s.ch.get c).cap)) rest) v) := by
  refine .cont valid ?_ (.inr (by simp [headCode]))
  refine (rcHead_poised c key (count + 1)
    (s.setRec c { s.ch.get c with cmp := ((s.ch.get c).cmp + 1) % (s.ch.get c).cap }) rest v).trans ?_
  rw [State.setRec_ch, Pair.get_set_self]
  rfl

section
variable {s : State} {c : Chan} {d buf : Addr} {sts : Word} {fault : Bool} (sound : PathSound s)
  (slot : IsSlot s.cfg c d) (bus : ∀ k w, k < 16 → busResp s.cfg (d + BitVec.ofNat 64 (4 * k)) 4 w = .okay)
  (view : SlotView s c d buf sts fault)
include sound slot bus view

/-- The loads of an iteration, and on RX the invalidation of the buffer and the note of its length. -/
theorem HostRuns.inspect (finished : sts.extractLsb' 26 6 ≠ 0) (key : Key) (count : Nat) (rest : List Item) (v : Value) :
    ∃ t w, HostRuns (s.poised (headCode c key count d rest) v)
      (((t.dropRx c buf (lenField sts).toNat).setRec c ((s.ch.get c).noted c sts)).poised
        (callbackCode c (s.ch.get c).cb fault ++ clearCode c key count d rest) w) ∧ Loaded d s t := by
  have status := HostRuns.loadStatus sound slot (bus 7 false (by decide)) key count rest v
  have first : Loaded d s (s.afterLoad (d + 0x1C)) := loaded_afterLoad sound slot (k := 0x1C) (by decide) (by decide)
  rw [view.status] at status
  generalize s.afterLoad (d + 0x1C) = s1 at status first
  have view1 : SlotView s1 c d buf sts fault := by
    obtain ⟨status, buffer, result⟩ := view
    exact ⟨(first.loadWord _).trans status, by rw [first.loadWord, first.loadWord, buffer],
      by rw [first.loadWord, first.only.cfg, first.only.ch]; exact result⟩
  obtain ⟨s2, v2, judge, second⟩ := HostRuns.judge first.sound (first.only.cfg ▸ slot) (first.only.cfg ▸ bus) view1 finished
    key count rest
  have early := first.trans second
  obtain ⟨s3, v3, take, third⟩ := HostRuns.takeBuffer (buf := buf) early.sound (early.only.cfg ▸ slot)
    (early.only.cfg ▸ bus) (by rw [early.loadWord, early.loadWord, view.buffer]) key count sts fault rest v2
  rw [first.only.ch] at judge
  rw [early.only.ch] at take
  exact ⟨s3, v3, status.trans (judge.trans take), early.trans third⟩

/-- The run of an iteration up to its stores: the callback is told, if there is one, and its body is empty. -/
theorem HostRuns.tell (finished : sts.extractLsb' 26 6 ≠ 0) (body : (s.ch.get c).cb = none ∨ ∃ bs, s.bodies = [] :: bs)
    (key : Key) (count : Nat) (rest : List Item) (v : Value) :
    ∃ t u w, HostRuns (s.poised (headCode c key count d rest) v) (u.poised (clearCode c key count d rest) w) ∧
      Loaded d s t ∧ SamePath (t.dropRx c buf (lenField sts).toNat) u ∧ Alike s u ∧
      u.ch = s.ch.set c ((s.ch.get c).noted c sts) ∧ u.cblog = s.cblog ++ callbackEntries c (s.ch.get c) fault ∧
      u.bodies = if (s.ch.get c).cb = none then s.bodies else s.bodies.drop 1 := by
  obtain ⟨t, v1, inspect, loaded⟩ := HostRuns.inspect sound slot bus view finished key count rest v
  have only : PathOnly s (t.dropRx c buf (lenField sts).toNat) := loaded.only.trans (pathOnly_dropRx ..)
  have ch := only.setRec_ch c ((s.ch.get c).noted c sts)
  have same : SamePath (t.dropRx c buf (lenField sts).toNat)
    ((t.dropRx c buf (lenField sts).toNat).setRec c ((s.ch.get c).noted c sts)) := ⟨rfl, rfl, rfl⟩
  have alike := only.alike.trans (alike_setRec _ c ((s.ch.get c).noted c sts))
  have log : ((t.dropRx c buf (lenField sts).toNat).setRec c ((s.ch.get c).noted c sts)).cblog = s.cblog :=
    congrArg Parts.cblog only.parts
  have bodies : ((t.dropRx c buf (lenField sts).toNat).setRec c ((s.ch.get c).noted c sts)).bodies = s.bodies := only.bodies
  generalize (t.dropRx c buf (lenField sts).toNat).setRec c ((s.ch.get c).noted c sts) = u at inspect ch same alike log bodies
  have record : u.ch.get c = (s.ch.get c).noted c sts := by rw [ch, Pair.get_set_self]
  have callback : (u.ch.get c).cb = (s.ch.get c).cb := by rw [record]; rfl
  obtain ⟨v2, call⟩ := HostRuns.callback (alike.cfg ▸ sound.valid) c fault (by rwa [callback, bodies])
    (is := clearCode c key count d rest) (by simp [clearCode]) v1
  rw [callback] at call
  obtain ⟨cfg, mem, cache⟩ := samePath_calledBack u c fault
  refine ⟨t, _, v2, inspect.trans call, loaded, ⟨cfg.trans same.cfg, mem.trans same.mem, cache.trans same.cache⟩,
    alike.trans (alike_calledBack ..), (State.calledBack_ch ..).trans ch, ?_, ?_⟩
  · rw [State.calledBack_cblog, log, record]
    rfl
  · rw [State.calledBack_bodies, callback, bodies]

/-- A quiet run over one finished descriptor. -/
theorem reclaim_one (empty : s.sb = []) (finished : sts.extractLsb' 26 6 ≠ 0)
    (body : (s.ch.get c).cb = none ∨ ∃ bs, s.bodies = [] :: bs) (key : Key) (count : Nat) (rest : List Item) (v : Value) :
    ∃ t w, QuietRuns (s.poised (headCode c key count d rest) v)
        (t.poised (headCode c key (count + 1) (descAddr s.cfg c (((s.ch.get c).cmp + 1) % (s.ch.get c).cap)) rest) w) ∧
      Reclaimed c d buf sts fault s t := by
  obtain ⟨t, u, v1, tell, loaded, same, alike, ch, log, bodies⟩ :=
    HostRuns.tell sound slot bus view finished body key count rest v
  have sb : u.sb = [] := alike.sb.trans empty
  obtain ⟨v2, store⟩ := HostRuns.stores (s := u) (v := v1) (alike.cfg ▸ sound.valid)
    (fun e he => slotStores_aligned slot wordOffsets_clearWords he)
    (is := .op .fence :: .op (.dcFlush d 64) :: .cont (.rcNext c key count) :: rest) (by simp)
  rw [sb, List.nil_append] at store
  obtain ⟨w, publish, only, updated⟩ := QuietRuns.publishSlot (v := v2) (n := (lenField sts).toNat) slot
    wordOffsets_clearWords loaded same sb bus (is := .cont (.rcNext c key count) :: rest) (by simp)
  have after : Alike s w := alike.trans only.alike
  have chAfter := only.ch.trans ch
  have record : w.ch.get c = (s.ch.get c).noted c sts := by rw [chAfter, Pair.get_set_self]
  have next := HostRuns.next (after.cfg ▸ sound.valid) c key count rest .unit
  rw [after.cfg, record] at next
  refine ⟨_, _, (tell.trans store).quiet.trans (publish.trans next.quiet), after.trans (alike_setRec ..),
    updated.samePath ⟨rfl, rfl, rfl⟩, ?_, (congrArg Parts.cblog only.parts).trans log, only.bodies.trans bodies⟩
  rw [State.setRec_ch, chAfter, Pair.set_set]
  rfl

end

end Sys2Proof.Machine
end

section
/-! RECLAIM over any number of finished descriptors (43_ring.md R302, R306, R307). -/

namespace Sys2Proof.Machine

/-! Received bytes and the ring. -/

section
variable {c : Chan} {buf : Addr} {n : Nat}

/-- The lines of bytes outside a ring are outside it. -/
theorem not_invalidated_in_ring {p : Params} (valid : paramsValid p = true) (nc : p.cacheMode = .noncoherent)
    (apart : ∀ k, k < n → inRingOf p c ((buf.toNat + k) % 2 ^ 64) = false) {x : Nat} (hx : inRingOf p c x = true) :
    ¬ Invalidated p buf n x := by
  rintro ⟨-, k, hk, line⟩
  have base : lineBase p ((buf.toNat + k) % 2 ^ 64) = lineBase p x := congrArg (· * p.line) line
  have outside := apart k hk
  rw [← inRingOf_lineBase valid nc, base, inRingOf_lineBase valid nc, hx] at outside
  cases outside

/-- The host's view of the ring changes by the stores alone, no received byte being in the ring. -/
theorem SlotUpdated.seen_in_ring {es : List SbEntry} {d : Addr} {s t : State} (h : SlotUpdated c es d buf n s t)
    (sound : PathSound s) (apart : c = .rx → s.cfg.cacheMode = .noncoherent → ∀ k, k < n →
      inRingOf s.cfg c ((buf.toNat + k) % 2 ^ 64) = false) {x : Nat} (hx : inRingOf s.cfg c x = true)
    (unstored : ¬ StoredByte es x) : t.hostByte x = s.hostByte x := by
  obtain ⟨dropped, kept⟩ := h.seen x unstored
  by_cases drop : c = .rx ∧ Invalidated s.cfg buf n x
  · obtain ⟨rx, inv⟩ := drop
    cases mode : s.cfg.cacheMode with
    | coherent => rw [dropped rx inv, State.hostByte, cacheable_of_coherent mode x, if_neg Bool.false_ne_true]
    | noncoherent => exact absurd inv (not_invalidated_in_ring sound.valid mode (apart rx mode) hx)
  · exact kept drop

end

/-- The bytes of a word of a slot are in the slot. -/
theorem IsSlot.wordByte {p : Params} {c : Chan} {d : Addr} (slot : IsSlot p c d) {k b : Nat} (hk : k + 4 ≤ 64) (hb : b < 4) :
    InSpan d.toNat 64 (((d + BitVec.ofNat 64 k).toNat + b) % 2 ^ 64) := by
  have fits := slot.whole.fits
  rw [slot.toNat_add (by omega), Nat.mod_eq_of_lt (by omega)]
  exact ⟨by omega, by omega⟩

/-! What a pass meets, and what it leaves. -/

/-- A pass in `s` over `m` finished slots of a ring: `d j` is the slot `j` places after `cmp`, `sts j`, `buf j` and `fault j`
what the host sees there. -/
structure PassOver (s : State) (c : Chan) (m : Nat) (d buf : Nat → Addr) (sts : Nat → Word) (fault : Nat → Bool) :
    Prop where
  sound : PathSound s
  empty : s.sb = []
  cap : (s.ch.get c).cap = s.cfg.cap.get c
  cmp : (s.ch.get c).cmp < s.cfg.cap.get c
  small : m ≤ s.cfg.cap.get c
  place : ∀ j, d j = descAddr s.cfg c (((s.ch.get c).cmp + j) % s.cfg.cap.get c)
  view : ∀ j, SlotView s c (d j) (buf j) (sts j) (fault j)
  finished : ∀ j, j < m → (sts j).extractLsb' 26 6 ≠ 0
  bus : ∀ j, j < m → ∀ k w, k < 16 → busResp s.cfg (d j + BitVec.ofNat 64 (4 * k)) 4 w = .okay
  apart : ∀ j, j < m → c = .rx → s.cfg.cacheMode = .noncoherent → ∀ k, k < (lenField (sts j)).toNat →
    inRingOf s.cfg c (((buf j).toNat + k) % 2 ^ 64) = false

/-- The record of a channel after a pass over `i` slots. -/
def Record.passedOver (r : Record) (c : Chan) (sts : Nat → Word) (i : Nat) : Record :=
  { r with cmp := (r.cmp + i) % r.cap, lastRx := if c = .rx ∧ i ≠ 0 then lenField (sts (i - 1)) else r.lastRx }

/-- What a pass has done to `s` after `i` slots. -/
structure PassedOver (c : Chan) (d buf : Nat → Addr) (sts : Nat → Word) (fault : Nat → Bool) (s : State) (i : Nat)
    (t : State) : Prop where
  alike : Alike s t
  sound : PathSound t
  ahead : ∀ j, i ≤ j → j < s.cfg.cap.get c → ∀ x, InSpan (d j).toNat 64 x → t.hostByte x = s.hostByte x
  cleared : ∀ j, j < i → ∀ k ∈ clearWords.map Prod.fst,
    t.hostWord (d j + BitVec.ofNat 64 k) = 0 ∧ t.mem.readWord (d j + BitVec.ofNat 64 k) = 0
  mem : ∀ x, (∀ j, j < i → ¬ InSpan (d j).toNat 64 x) → t.mem.read x = s.mem.read x
  direct : DirectRings s.cfg → ∀ x, (∀ j, j < i → ¬ InSpan ((d j).toNat + 0x18) 8 x) → t.mem.read x = s.mem.read x
  seen : ∀ x, (∀ j, j < i → ¬ InSpan ((d j).toNat + 0x18) 8 x) →
    (c = .rx → (∃ j, j < i ∧ Invalidated s.cfg (buf j) (lenField (sts j)).toNat x) → t.hostByte x = s.mem.read x) ∧
    (¬ (c = .rx ∧ ∃ j, j < i ∧ Invalidated s.cfg (buf j) (lenField (sts j)).toNat x) → t.hostByte x = s.hostByte x)
  lines : ∀ l, inRingOf s.cfg c l.base = false → (l ∈ t.cache ↔ l ∈ s.cache ∧
    ¬ (c = .rx ∧ uncachedRing s.cfg l.base = false ∧
      ∃ j, j < i ∧ LineMeets s.cfg l (buf j).toNat (lenField (sts j)).toNat))
  ch : t.ch = s.ch.set c ((s.ch.get c).passedOver c sts i)
  cblog : t.cblog = s.cblog ++ (List.range i).flatMap fun j => callbackEntries c (s.ch.get c) (fault j)
  bodies : t.bodies = if (s.ch.get c).cb = none then s.bodies else s.bodies.drop i

theorem PassedOver.record {s t : State} {c : Chan} {i : Nat} {d buf : Nat → Addr} {sts : Nat → Word} {fault : Nat → Bool}
    (passed : PassedOver c d buf sts fault s i t) : t.ch.get c = (s.ch.get c).passedOver c sts i := by
  rw [passed.ch, Pair.get_set_self]

/-- The record goes on by one slot. -/
theorem Record.passedOver_succ (r : Record) (c : Chan) (sts : Nat → Word) (i : Nat) :
    (r.passedOver c sts i).passed c (sts i) = r.passedOver c sts (i + 1) := by
  cases c <;> simp [Record.passedOver, Record.passed, Record.noted, Nat.add_assoc]

section
variable {s : State} {c : Chan} {m : Nat} {d buf : Nat → Addr} {sts : Nat → Word} {fault : Nat → Bool}
  (pass : PassOver s c m d buf sts fault)
include pass

theorem PassOver.slot (j : Nat) : IsSlot s.cfg c (d j) := by
  rw [pass.place]
  exact isSlot_mod pass.sound.valid c _

/-- The slots of a pass are different. -/
theorem PassOver.slots_apart {i j : Nat} (hi : i < s.cfg.cap.get c) (hj : j < s.cfg.cap.get c) (ne : i ≠ j) {x : Nat}
    (hx : InSpan (d i).toNat 64 x) : ¬ InSpan (d j).toNat 64 x := by
  have some_slot : 0 < s.cfg.cap.get c := by omega
  rw [pass.place] at hx ⊢
  refine descAddr_apart pass.sound.valid (Nat.mod_lt _ some_slot) (Nat.mod_lt _ some_slot) (fun same => ne ?_) hx
  have congruent : i ≡ j [MOD s.cfg.cap.get c] := Nat.ModEq.add_left_cancel' _ same
  exact congruent.eq_of_lt_of_lt hi hj

/-- Before the first slot nothing is done. -/
theorem PassOver.start : PassedOver c d buf sts fault s 0 s := by
  refine ⟨.refl s, pass.sound, fun _ _ _ _ _ => rfl, nofun, fun _ _ => rfl, fun _ _ _ => rfl, fun x _ => ⟨?_, fun _ => rfl⟩,
    fun l _ => ?_, ?_, by simp, by simp⟩
  · rintro - ⟨j, hj, -⟩
    cases hj
  · simp
  · have same : (s.ch.get c).passedOver c sts 0 = s.ch.get c := by
      rw [Record.passedOver, Nat.add_zero, Nat.mod_eq_of_lt (pass.cap ▸ pass.cmp), if_neg (by simp)]
    rw [same, Pair.set_get]

variable {i : Nat} {t : State} (passed : PassedOver c d buf sts fault s i t)
include passed

/-- The host loads the words of a slot ahead as before the pass. -/
theorem PassOver.load_ahead {j : Nat} (later : i ≤ j) (hj : j < s.cfg.cap.get c) {k : Nat} (hk : k + 4 ≤ 64) :
    t.loadWord (d j + BitVec.ofNat 64 k) = s.loadWord (d j + BitVec.ofNat 64 k) := by
  rw [loadWord_of_empty (passed.alike.sb.trans pass.empty), loadWord_of_empty pass.empty]
  exact hostWord_congr fun b hb => passed.ahead j later hj _ ((pass.slot j).wordByte hk hb)

/-- The next slot is as the host saw it before the pass. -/
theorem PassOver.next_view (hi : i < m) : SlotView t c (d i) (buf i) (sts i) (fault i) := by
  have small := pass.small
  have csum := csumWord_small pass.sound.valid
  obtain ⟨status, buffer, result⟩ := pass.view i
  have load {k : Nat} (hk : k + 4 ≤ 64) := pass.load_ahead passed (Nat.le_refl i) (by omega) hk
  refine ⟨(load (k := 0x1C) (by decide)).trans status, ?_, ?_⟩
  · exact (congrArg₂ (· ++ ·) (load (k := 0x0C) (by decide)) (load (k := 0x08) (by decide))).trans buffer
  · rw [passed.alike.cfg, load (by omega), passed.record]
    exact result

/-- A byte of a buffer that an iteration drops is in memory as before the pass. -/
theorem PassOver.mem_dropped (hi : i < m) (rx : c = .rx) {x : Nat}
    (inv : Invalidated s.cfg (buf i) (lenField (sts i)).toNat x)
    (uncleared : ∀ j, j < i → ¬ InSpan ((d j).toNat + 0x18) 8 x) : t.mem.read x = s.mem.read x := by
  cases mode : s.cfg.cacheMode with
  | coherent => exact passed.direct (.inl mode) x uncleared
  | noncoherent =>
    refine passed.mem x fun j _ inside => ?_
    exact not_invalidated_in_ring pass.sound.valid mode (pass.apart i hi rx mode) ((pass.slot j).inRing x inside) inv

section
variable (hi : i < m) {u : State} (one : Reclaimed c (d i) (buf i) (sts i) (fault i) t u)
include hi one

/-- An iteration changes the host's view of no slot but its own. -/
theorem PassOver.kept_view {j : Nat} (hj : j < s.cfg.cap.get c) (other : j ≠ i) {x : Nat}
    (hx : InSpan (d j).toNat 64 x) : u.hostByte x = t.hostByte x := by
  have small := pass.small
  have cfg := passed.alike.cfg
  refine one.slot.seen_in_ring passed.sound (by rw [cfg]; exact pass.apart i hi)
    (by rw [cfg]; exact (pass.slot j).inRing x hx) ?_
  rw [storedByte_clearWords (pass.slot i)]
  have outside := pass.slots_apart hj (by omega) other hx
  unfold InSpan at *
  omega

theorem PassOver.step_ahead {j : Nat} (later : i + 1 ≤ j) (hj : j < s.cfg.cap.get c) {x : Nat}
    (hx : InSpan (d j).toNat 64 x) : u.hostByte x = s.hostByte x :=
  (pass.kept_view passed hi one hj (by omega) hx).trans (passed.ahead j (by omega) hj x hx)

theorem PassOver.step_cleared {j : Nat} (hj : j < i + 1) {k : Nat} (hk : k ∈ clearWords.map Prod.fst) :
    u.hostWord (d j + BitVec.ofNat 64 k) = 0 ∧ u.mem.readWord (d j + BitVec.ofNat 64 k) = 0 := by
  have small := pass.small
  by_cases here : j = i
  · obtain ⟨w, hw, rfl⟩ := List.mem_map.1 hk
    have zero : w.2 = 0 := by
      simp only [clearWords, List.mem_cons, List.not_mem_nil, or_false] at hw
      rcases hw with rfl | rfl <;> rfl
    rw [here, ← zero]
    exact one.slot.stored (passed.alike.cfg ▸ pass.slot i) wordOffsets_clearWords hw
  · have inside := (wordOffsets_clearWords.2 k hk).2
    have byte {b : Nat} (hb : b < 4) := (pass.slot j).wordByte inside hb
    obtain ⟨view, memory⟩ := passed.cleared j (by omega) k hk
    exact ⟨(hostWord_congr fun b hb => pass.kept_view passed hi one (by omega) here (byte hb)).trans view,
      (readWord_congr fun b hb => one.slot.mem _ (pass.slots_apart (by omega) (by omega) here (byte hb))).trans memory⟩

theorem PassOver.step_seen {x : Nat} (uncleared : ∀ j, j < i + 1 → ¬ InSpan ((d j).toNat + 0x18) 8 x) :
    (c = .rx → (∃ j, j < i + 1 ∧ Invalidated s.cfg (buf j) (lenField (sts j)).toNat x) →
      u.hostByte x = s.mem.read x) ∧
    (¬ (c = .rx ∧ ∃ j, j < i + 1 ∧ Invalidated s.cfg (buf j) (lenField (sts j)).toNat x) →
      u.hostByte x = s.hostByte x) := by
  have before (j : Nat) (hj : j < i) := uncleared j (by omega)
  have unstored : ¬ StoredByte (slotStores (d i) clearWords) x :=
    mt (storedByte_clearWords (pass.slot i) x).1 (uncleared i (by omega))
  obtain ⟨dropped, kept⟩ := one.slot.seen x unstored
  rw [passed.alike.cfg] at dropped kept
  obtain ⟨droppedBefore, keptBefore⟩ := passed.seen x before
  refine ⟨fun rx found => ?_, fun notFound => ?_⟩
  · by_cases now : Invalidated s.cfg (buf i) (lenField (sts i)).toNat x
    · exact (dropped rx now).trans (pass.mem_dropped passed hi rx now before)
    · obtain ⟨j, hj, inv⟩ := found
      have earlier : j ≠ i := fun same => now (same ▸ inv)
      exact (kept fun h => now h.2).trans (droppedBefore rx ⟨j, by omega, inv⟩)
  · refine (kept fun ⟨rx, inv⟩ => notFound ⟨rx, i, by omega, inv⟩).trans
      (keptBefore fun ⟨rx, j, hj, inv⟩ => notFound ⟨rx, j, by omega, inv⟩)

omit hi in
theorem PassOver.step_lines {l : CacheLine} (outside : inRingOf s.cfg c l.base = false) :
    l ∈ u.cache ↔ l ∈ s.cache ∧ ¬ (c = .rx ∧ uncachedRing s.cfg l.base = false ∧
      ∃ j, j < i + 1 ∧ LineMeets s.cfg l (buf j).toNat (lenField (sts j)).toNat) := by
  have notHere : ¬ InSpan (d i).toNat 64 l.base := fun inside => by
    rw [(pass.slot i).inRing _ inside] at outside
    cases outside
  have now := one.slot.lines l (.inl notHere)
  rw [passed.alike.cfg] at now
  rw [now, passed.lines l outside, Nat.exists_lt_succ_right, and_assoc, ← not_or,
    and_comm (a := LineMeets s.cfg l (buf i).toNat (lenField (sts i)).toNat), ← and_or_left, ← and_or_left]

/-- One iteration more. -/
theorem PassOver.step : PassedOver c d buf sts fault s (i + 1) u := by
  have cfg := passed.alike.cfg
  refine ⟨passed.alike.trans one.alike, one.slot.sound, fun j later hj x hx => pass.step_ahead passed hi one later hj hx,
    fun j hj k hk => pass.step_cleared passed hi one hj hk, fun x outside => ?mem, fun direct x uncleared => ?direct,
    fun x uncleared => pass.step_seen passed hi one uncleared, fun l outside => pass.step_lines passed one outside,
    ?ch, ?cblog, ?bodies⟩
  case mem => exact (one.slot.mem x (outside i (by omega))).trans (passed.mem x fun j hj => outside j (by omega))
  case direct =>
    have unstored := mt (storedByte_clearWords (pass.slot i) x).1 (uncleared i (by omega))
    exact (one.slot.direct (cfg ▸ direct) x unstored).trans (passed.direct direct x fun j hj => uncleared j (by omega))
  case ch => rw [one.ch, passed.record, Record.passedOver_succ, passed.ch, Pair.set_set]
  case cblog =>
    rw [one.cblog, passed.cblog, passed.record, List.range_succ, List.flatMap_append, List.flatMap_singleton,
      List.append_assoc]
    rfl
  case bodies =>
    have callback : (t.ch.get c).cb = (s.ch.get c).cb := by rw [passed.record]; rfl
    rw [one.bodies, passed.bodies, callback]
    split
    · rfl
    · rw [List.drop_drop]

end

end

end Sys2Proof.Machine
end

section
/-! The runs of RECLAIM over finished descriptors (43_ring.md R302, R306, R307, R405). -/

namespace Sys2Proof.Machine

section
variable {s : State} {c : Chan} {m : Nat} {d buf : Nat → Addr} {sts : Nat → Word} {fault : Nat → Bool}
  (pass : PassOver s c m d buf sts fault)
include pass

/-- The iterations of a pass, the bodies of its callbacks empty. -/
theorem PassOver.runs {bs : List (List Instr)} (body : (s.ch.get c).cb = none ∨ s.bodies = List.replicate m [] ++ bs)
    (key : Key) (rest : List Item) (v : Value) {i : Nat} (hi : i ≤ m) :
    ∃ t w, QuietRuns (s.poised (headCode c key 0 (d 0) rest) v) (t.poised (headCode c key i (d i) rest) w) ∧
      PassedOver c d buf sts fault s i t := by
  induction i with
  | zero => exact ⟨s, v, (HostRuns.refl _).quiet, pass.start⟩
  | succ i ih =>
    obtain ⟨t, w, run, passed⟩ := ih (by omega)
    have cfg := passed.alike.cfg
    have callback : (t.ch.get c).cb = (s.ch.get c).cb := by rw [passed.record]; rfl
    have bodies : (t.ch.get c).cb = none ∨ ∃ bs, t.bodies = [] :: bs := by
      rw [callback, passed.bodies]
      refine or_iff_not_imp_left.2 fun some_ => ?_
      rw [if_neg some_, body.resolve_left some_, List.drop_append_of_le_length (by simp; omega), List.drop_replicate,
        show m - i = m - (i + 1) + 1 by omega, List.replicate_succ]
      exact ⟨_, rfl⟩
    obtain ⟨u, w', more, one⟩ := reclaim_one passed.sound (cfg ▸ pass.slot i) (cfg ▸ pass.bus i hi)
      (pass.next_view passed hi) (passed.alike.sb.trans pass.empty) (pass.finished i hi) bodies key i rest w
    have next : descAddr t.cfg c (((t.ch.get c).cmp + 1) % (t.ch.get c).cap) = d (i + 1) := by
      rw [passed.record, cfg, pass.place, ← pass.cap]
      simp only [Record.passedOver, Nat.mod_add_mod, Nat.add_assoc]
    rw [next] at more
    exact ⟨u, w', run.trans more, pass.step passed hi one⟩

/-- A load from a slot after the pass leaves what the pass has done. -/
theorem PassOver.loaded {t u : State} (passed : PassedOver c d buf sts fault s m t) {j : Nat} (loaded : Loaded (d j) t u) :
    PassedOver c d buf sts fault s m u := by
  have view : u.hostWord = t.hostWord := funext fun a => hostWord_congr fun b _ => loaded.seen _
  refine ⟨passed.alike.trans loaded.only.alike, loaded.sound, fun i h1 h2 x hx => (loaded.seen x).trans
      (passed.ahead i h1 h2 x hx), ?_, ?_, ?_, fun x h => ?_, fun l outside => ?_, loaded.only.ch.trans passed.ch,
    (congrArg Parts.cblog loaded.only.parts).trans passed.cblog, loaded.only.bodies.trans passed.bodies⟩
  · rw [view, loaded.mem]
    exact passed.cleared
  · rw [loaded.mem]
    exact passed.mem
  · rw [loaded.mem]
    exact passed.direct
  · rw [loaded.seen]
    exact passed.seen x h
  · refine (loaded.lines l (.inl fun inside => ?_)).trans (passed.lines l outside)
    rw [(pass.slot j).inRing _ inside] at outside
    cases outside

/-- The slot after a pass is unfinished: by what the host sees there, or, after the whole ring, because the pass cleared
it. -/
theorem PassOver.unfinished {t : State} (passed : PassedOver c d buf sts fault s m t)
    (last : m < s.cfg.cap.get c → (sts m).extractLsb' 26 6 = 0 ∧ busResp s.cfg (d m + 0x1C) 4 false = .okay) :
    (t.loadWord (d m + 0x1C)).extractLsb' 26 6 = 0 ∧ busResp s.cfg (d m + 0x1C) 4 false = .okay := by
  have small := pass.small
  have cmp := pass.cmp
  by_cases more : m < s.cfg.cap.get c
  · obtain ⟨unfinished, bus⟩ := last more
    have status : t.loadWord (d m + 0x1C) = s.loadWord (d m + 0x1C) :=
      pass.load_ahead passed (k := 0x1C) (Nat.le_refl m) more (by decide)
    rw [status, (pass.view m).status]
    exact ⟨unfinished, bus⟩
  · have whole : m = s.cfg.cap.get c := by omega
    have first : d m = d 0 := by rw [pass.place, pass.place, whole, Nat.add_mod_right, Nat.add_zero]
    obtain ⟨zero, -⟩ := passed.cleared 0 (by omega) 0x1C (by decide)
    rw [first]
    refine ⟨?_, pass.bus 0 (by omega) 7 false (by decide)⟩
    rw [loadWord_of_empty (passed.alike.sb.trans pass.empty)]
    exact zero ▸ rfl

theorem PassOver.withMasks (ls : Pair Line) (g : Bool) : PassOver (s.withMasks ls g) c m d buf sts fault :=
  ⟨⟨pass.sound.valid, pass.sound.memory, pass.sound.cache⟩, pass.empty, pass.cap, pass.cmp, pass.small, pass.place,
    fun j => ⟨(pass.view j).status, (pass.view j).buffer, (pass.view j).result⟩, pass.finished, pass.bus, pass.apart⟩

/-- A quiet run of RECLAIM over `m` finished descriptors. -/
theorem reclaim_runs {rest : List Item} {bs : List (List Instr)} (about : AboutTo s (.reclaim (chanNum c)) rest)
    (ready : s.ctl = .ready) (configured : (s.ch.get c).configured = true) (inv : Inv s)
    (last : m < s.cfg.cap.get c → (sts m).extractLsb' 26 6 = 0 ∧ busResp s.cfg (d m + 0x1C) 4 false = .okay)
    (body : (s.ch.get c).cb = none ∨ s.bodies = List.replicate m [] ++ bs) :
    ∃ ls g u, QuietRuns s ((u.withMasks s.lines s.gie).poised rest (.count m)) ∧
      PassedOver c d buf sts fault (s.withMasks ls g) m u := by
  obtain ⟨key, ls, g, enter, exit⟩ := reclaim_enters about ready configured inv
  have masked := pass.withMasks ls g
  have first : descAddr s.cfg c (s.ch.get c).cmp = d 0 := by rw [pass.place, Nat.add_zero, Nat.mod_eq_of_lt pass.cmp]
  rw [first] at enter
  obtain ⟨t, w, run, passed⟩ := masked.runs body key rest (.key key) (Nat.le_refl m)
  obtain ⟨unfinished, bus⟩ := masked.unfinished passed last
  have cfg : t.cfg = s.cfg := passed.alike.cfg
  have slot : IsSlot t.cfg c (d m) := by
    rw [cfg]
    exact pass.slot m
  have ends := HostRuns.reclaimEnds exit passed.alike passed.sound slot (cfg ▸ bus) unfinished m about.later w
  have loaded : Loaded (d m) t (t.afterLoad (d m + 0x1C)) :=
    loaded_afterLoad passed.sound slot (k := 0x1C) (by decide) (by decide)
  exact ⟨ls, g, _, enter.quiet.trans (run.trans ends.quiet), masked.loaded passed loaded⟩

end

section
variable {s u : State} {c : Chan} {i : Nat} {d buf : Nat → Addr} {sts : Nat → Word} {fault : Nat → Bool}
  (passed : PassedOver c d buf sts fault s i u)
include passed

theorem PassedOver.log : u.cblog = if (s.ch.get c).cb = none then s.cblog
    else s.cblog ++ (List.range i).map fun j => ⟨c, (s.ch.get c).ud, if fault j then .fault else .ok⟩ := by
  rw [passed.cblog]
  cases cb : (s.ch.get c).cb with
  | none => simp [callbackEntries, cb]
  | some f => simp [callbackEntries, cb, List.map_eq_flatMap]

theorem PassedOver.free {j : Nat} (hj : j < i) (empty : s.sb = []) :
    u.mem.readWord (d j + 0x18) = 0 ∧ u.mem.readWord (d j + 0x1C) = 0 ∧ SlotFree u (d j) := by
  obtain ⟨control, controlMem⟩ := passed.cleared j hj 0x18 (by decide)
  obtain ⟨status, statusMem⟩ := passed.cleared j hj 0x1C (by decide)
  have sb := passed.alike.sb.trans empty
  exact ⟨controlMem, statusMem, (loadWord_of_empty sb _).trans control, (loadWord_of_empty sb _).trans status⟩

end

/-- Settles O59: the run over `m` finished descriptors, by induction on the descriptors. -/
theorem reclaimReturnsEveryFinishedDescriptor : Obligations.ReclaimReturnsEveryFinishedDescriptor := by
  intro s c rest m d buf sts fault bs about ready configured inv empty small slots finished last body
  obtain ⟨-, cap, -, -, cmp⟩ := recordLegal_iff.1 (inv.records c)
  have pass : PassOver s c m d buf sts fault :=
    ⟨inv.pathSound about.valid, empty, cap, cap ▸ cmp, small, fun j => (slots j).1,
      fun j => ⟨(slots j).2.1.symm, (slots j).2.2.1.symm, (slots j).2.2.2⟩, fun j hj => (finished j hj).1,
      fun j hj => (finished j hj).2.1, fun j hj => (finished j hj).2.2⟩
  obtain ⟨ls, g, u, ⟨n, run⟩, passed⟩ := reclaim_runs pass about ready configured inv last body
  refine ⟨n, _, run, State.code_poised .., State.ret_poised .., passed.alike.sb.trans empty, passed.log,
    fun j hj => passed.free hj empty, passed.mem, fun x h => ⟨fun direct => passed.direct direct x h, passed.seen x h⟩,
    passed.lines, ?_, passed.alike.eng, passed.alike.around rest _⟩
  rw [← cap]
  exact passed.ch

/-! One descriptor, in COHERENT mode. -/

/-- The slot `j` places after `cmp`. -/
def State.slotAhead (s : State) (c : Chan) (j : Nat) : Addr :=
  descAddr s.cfg c (((s.ch.get c).cmp + j) % s.cfg.cap.get c)

/-- The STATUS the host sees there. -/
def State.statusAhead (s : State) (c : Chan) (j : Nat) : Word := s.loadWord (s.slotAhead c j + 0x1C)

/-- The buffer that the host sees named there. -/
def State.bufferAhead (s : State) (c : Chan) (j : Nat) : Addr :=
  s.loadWord (s.slotAhead c j + 0x0C) ++ s.loadWord (s.slotAhead c j + 0x08)

/-- The callback gets RES_FAULT for it. -/
def State.faultAhead (s : State) (c : Chan) (j : Nat) : Bool :=
  decide ((s.statusAhead c j).extractLsb' 28 3 ≠ 0) || ((s.ch.get c).csumChk &&
    decide (s.loadWord (s.slotAhead c j + BitVec.ofNat 64 (0x20 + 4 * s.cfg.csumWord)) &&& csumMask s.cfg ≠ 0))

/-- A pass over one finished descriptor in COHERENT mode. -/
theorem passOver_one {s : State} {c : Chan} (valid : paramsValid s.cfg = true) (inv : Inv s)
    (coherent : s.cfg.cacheMode = .coherent) (empty : s.sb = []) (finished : (s.statusAhead c 0).extractLsb' 26 6 ≠ 0)
    (bus : ∀ k w, k < 16 → busResp s.cfg (s.slotAhead c 0 + BitVec.ofNat 64 (4 * k)) 4 w = .okay) :
    PassOver s c 1 (s.slotAhead c) (s.bufferAhead c) (s.statusAhead c) (s.faultAhead c) := by
  obtain ⟨-, cap, -, -, cmp⟩ := recordLegal_iff.1 (inv.records c)
  have only {j : Nat} (hj : j < 1) : j = 0 := by omega
  exact ⟨inv.pathSound valid, empty, cap, cap ▸ cmp, (ring_bounds valid c).1, fun _ => rfl, fun _ => ⟨rfl, rfl, rfl⟩,
    fun j hj => only hj ▸ finished, fun j hj => only hj ▸ bus, fun _ _ _ nc => by rw [coherent] at nc; cases nc⟩

/-- Settles O33: the pass over one descriptor; in COHERENT mode the words loaded are memory's. -/
theorem reclaimReturnsOneDescriptor : Obligations.ReclaimReturnsOneDescriptor := by
  intro s c rest d d1 sts fault about ready configured inv coherent empty hd hd1 bus bus1 hsts finished unfinished hfault body
  obtain ⟨-, cap, -, -, cmp⟩ := recordLegal_iff.1 (inv.records c)
  have view (a : Addr) : s.loadWord a = s.mem.readWord a :=
    (loadWord_of_empty empty a).trans (State.hostWord_coherent coherent a)
  have here : s.slotAhead c 0 = d := by rw [State.slotAhead, Nat.add_zero, Nat.mod_eq_of_lt (cap ▸ cmp), hd]
  have status : s.statusAhead c 0 = sts := by rw [State.statusAhead, here, view, hsts]
  have result : s.faultAhead c 0 = fault := by rw [State.faultAhead, status, here, view, hfault]; rfl
  have pass := passOver_one about.valid inv coherent empty (status ▸ finished) (here ▸ bus)
  have last : (s.statusAhead c 1).extractLsb' 26 6 = 0 ∧ busResp s.cfg (s.slotAhead c 1 + 0x1C) 4 false = .okay := by
    rw [State.statusAhead, show s.slotAhead c 1 = d1 from hd1.symm, view]
    exact ⟨unfinished, bus1⟩
  have bodies : ∃ bs, (s.ch.get c).cb = none ∨ s.bodies = List.replicate 1 [] ++ bs := by
    rcases body with none_ | ⟨bs, given⟩
    · exact ⟨[], .inl none_⟩
    · exact ⟨bs, .inr given⟩
  obtain ⟨bs, bodies⟩ := bodies
  obtain ⟨ls, g, u, ⟨n, run⟩, passed⟩ := reclaim_runs pass about ready configured inv (fun _ => last) bodies
  have frame := passed.alike.around rest (.count 1)
  obtain ⟨control, cleared, -⟩ := passed.free (Nat.zero_lt_one) empty
  rw [here] at control cleared
  have log := passed.log
  rw [List.range_one, List.map_singleton, result] at log
  have cache : u.cache = s.cache := by
    rw [passed.sound.no_cache (passed.alike.cfg ▸ coherent), (inv.pathSound about.valid).no_cache coherent]
  refine ⟨n, _, run, State.code_poised .., State.ret_poised .., passed.alike.sb.trans empty, log, control, cleared,
    fun x outside => passed.direct (.inl coherent) x fun j hj => ?_, ?_, passed.alike.eng, frame.lines, frame.gie, frame.logs,
    frame.cfg, frame.rstBusy, frame.ctl, frame.outs, cache, frame.interrupted⟩
  · obtain rfl : j = 0 := by omega
    rw [here]
    unfold InSpan
    omega
  · rw [← cap, ← status]
    refine passed.ch.trans ?_
    cases c <;> rfl

end Sys2Proof.Machine
end

section
/-! Register accesses in a run, and a critical section in which the engine may be written (30_encoding.md R171;
40_register_interface.md R180 to R187; 41_host_primitives.md R228, R229). -/

namespace Sys2Proof.Machine

/-! One step of the host, as the item it runs. -/

/-- A step of the host that does not wait at a FENCE. -/
def HostStep (s t : State) : Prop := s.waitsAtFence = false ∧ stepAs .host s = .next t

theorem HostStep.runs {s t : State} (h : HostStep s t) : HostRuns s t := .of_step h.1 h.2

section
variable {s u : State} {is js : List Item} {v w : Value}

theorem HostStep.item {it : Item} (valid : paramsValid s.cfg = true) (free : it ≠ .op .fence)
    (run : runItem it (s.poised is v) = .next (u.poised js w)) (later : u.irqs = [] ∨ js ≠ []) :
    HostStep (s.poised (it :: is) v) (u.poised js w) := by
  refine ⟨State.waitsAtFence_poised s is v free, ?_⟩
  rw [stepAs_host (s := s.poised (it :: is) v) valid (State.code_poised ..), State.setCode_poised, run]
  exact congrArg _ (State.settle_poised u js w later)

theorem HostStep.op {i : Instr} (valid : paramsValid s.cfg = true) (auto : i.opClass ≠ .auto) (free : i ≠ .fence)
    (run : exec i (s.poised is v) = .next (u.poised js w)) (later : u.irqs = [] ∨ js ≠ []) :
    HostStep (s.poised (.op i :: is) v) (u.poised js w) :=
  .item valid (fun h => free (Item.op.inj h)) ((if_neg auto).trans run) later

theorem HostStep.cont {k : Cont} (valid : paramsValid s.cfg = true)
    (run : runPoint k (s.poised is v) = u.poised js w) (later : u.irqs = [] ∨ js ≠ []) :
    HostStep (s.poised (.cont k :: is) v) (u.poised js w) :=
  .item valid nofun (congrArg _ run) later

/-- A procedure called. -/
theorem HostStep.call {i : Instr} {rest : List Item} (about : AboutTo s i rest) (proc : i.opClass = .proc)
    (run : exec i (s.poised rest s.ret) = .next ((s.poised rest s.ret).push is)) (more : is ≠ []) :
    HostStep s (s.poised (is ++ rest) s.ret) := by
  rw [State.push_poised] at run
  have step := HostStep.op about.valid (by simp [proc]) (by rintro rfl; cases proc) run (.inr (by simp [more]))
  rwa [about.poised] at step

/-- FENCE over an empty store buffer (R222). -/
theorem HostStep.fence (valid : paramsValid s.cfg = true) (empty : s.sb = []) (later : s.irqs = [] ∨ is ≠ []) :
    HostStep (s.poised (.op .fence :: is) v) (s.poised is .unit) := by
  refine ⟨waitsAtFence_of_sb empty, ?_⟩
  rw [stepAs_op (s := s.poised (.op .fence :: is) v) valid (State.code_poised ..) (by decide), State.setCode_poised,
    exec_fence_empty (s := s.poised is v) empty, State.answer_poised]
  exact congrArg _ (State.settle_poised s is _ later)

/-! Registers (R180, R181). -/

theorem rdInstr_mmio (c : Chan) (r : Reg) : (rdInstr c r).opClass = .mmio := by cases c <;> cases r <;> rfl

theorem wrInstr_mmio (c : Chan) (r : Reg) (x : Word) : (wrInstr c r x).opClass = .mmio := by
  cases c <;> cases r <;> rfl

theorem HostStep.mmio {i : Instr} (valid : paramsValid s.cfg = true) (mmio : i.opClass = .mmio)
    (run : exec i (s.poised is v) = .next (u.poised js w)) (later : u.irqs = [] ∨ js ≠ []) :
    HostStep (s.poised (.op i :: is) v) (u.poised js w) :=
  .op valid (by simp [mmio]) (by rintro rfl; cases mmio) run later

theorem HostStep.read (valid : paramsValid s.cfg = true) (c : Chan) (r : Reg) (more : is ≠ []) :
    HostStep (s.poised (.op (rdInstr c r) :: is) v)
      ((s.spend (regDraws r)).poised is (.word (regValue s c r))) := by
  refine .mmio valid (rdInstr_mmio c r) ?_ (.inr more)
  have value : regValue (s.poised is v) c r = regValue s c r := by cases r <;> rfl
  rw [exec_rdInstr, mmioRead, value]
  exact congrArg _ (State.answer_poised (s.spend (regDraws r)) is v _)

/-- A register write that the channel takes: its engine becomes `e`. -/
theorem HostStep.write {c : Chan} {r : Reg} {x : Word} {e : Eng} (valid : paramsValid s.cfg = true)
    (ready : s.rstBusy = false)
    (run : writeReg c r x (s.poised is v) = .next (((s.poised is v).setEng c e).answer .unit)) (more : is ≠ []) :
    HostStep (s.poised (.op (wrInstr c r x) :: is) v) ((s.setEng c e).poised is .unit) := by
  refine .mmio valid (wrInstr_mmio c r x) ?_ (.inr more)
  rw [exec_wrInstr_of_not_busy (s := s.poised is v) ready, run]
  exact congrArg _ (State.answer_poised (s.setEng c e) is v .unit)

end

/-! Critical sections. -/

/-- CS_EXIT with `key`, where the masks are `ls` and `g`, puts back those of `s`, whatever was done to the engine and to the
memory path in between (R229). -/
def Restores (s : State) (key : Key) (ls : Pair Line) (g : Bool) : Prop :=
  ∀ (u : State) is v, u.cfg = s.cfg → u.lines = ls → u.gie = g →
    exec (.csExit key) (u.poised is v) = .next ((u.withMasks s.lines s.gie).poised is .unit)

/-- Whatever the mode, CS_ENTER masks, and its key puts the masks back (R228, R229). -/
theorem critical_masks {s : State} {c : Chan} (valid : paramsValid s.cfg = true)
    (wired : (s.ch.get c).irq = s.cfg.irq.get c) :
    ∃ key ls g,
      (∀ is v, exec (.csEnter (chanNum c)) (s.poised is v) = .next ((s.withMasks ls g).poised is (.key key))) ∧
      Restores s key ls g := by
  cases mode : s.cfg.csMode with
  | global =>
    refine ⟨.global s.gie, s.lines, false, fun is v => ?_, fun u is v cfg lines gie => ?_⟩
    · refine (exec_csEnter_global (s := s.poised is v) mode _).trans (congrArg _ ?_)
      exact State.answer_poised (s.withMasks s.lines false) is v _
    · rw [← lines]
      exact congrArg _ (State.answer_poised (u.withMasks u.lines s.gie) is v .unit)
  | bothLines =>
    refine ⟨.both s.lines.tx.en s.lines.rx.en, ((s.setEn .tx false).setEn .rx false).lines, s.gie,
      fun is v => ?_, fun u is v cfg lines gie => ?_⟩
    · refine (exec_csEnter_bothLines (s := s.poised is v) mode _).trans (congrArg _ ?_)
      exact State.answer_poised ((s.setEn .tx false).setEn .rx false) is v _
    · have masks : u.withMasks s.lines s.gie = (u.setEn .tx s.lines.tx.en).setEn .rx s.lines.rx.en := by
        rw [← gie]
        simp only [State.setEn, lines]
        rfl
      rw [masks]
      exact congrArg _ (State.answer_poised ((u.setEn .tx s.lines.tx.en).setEn .rx s.lines.rx.en) is v .unit)
  | channelLine =>
    refine ⟨.line (s.cfg.irq.get c) (s.lines.get c).en, (s.setEn c false).lines, s.gie, fun is v => ?_,
      fun u is v cfg lines gie => ?_⟩
    · refine (exec_csEnter_channelLine (s := s.poised is v) mode valid wired).trans (congrArg _ ?_)
      exact State.answer_poised (s.setEn c false) is v _
    · have masks : u.withMasks s.lines s.gie = u.setEn c (s.lines.get c).en := by
        rw [← gie]
        simp only [State.setEn, lines]
        cases c <;> rfl
      rw [masks, ← cfg]
      refine (exec_csExit_line (s := u.poised is v) (cfg ▸ valid) c _).trans (congrArg _ ?_)
      exact State.answer_poised (u.setEn c (s.lines.get c).en) is v .unit

theorem Inv.wired {s : State} (inv : Inv s) (c : Chan) : (s.ch.get c).irq = s.cfg.irq.get c := by
  obtain ⟨-, -, irq, -⟩ := recordLegal_iff.1 (inv.records c)
  exact irq

/-- A procedure that is called and enters its critical section. -/
theorem HostStep.section_entered {s : State} {i : Instr} {rest : List Item} {c : Chan} {k : Cont} (about : AboutTo s i rest)
    (proc : i.opClass = .proc) (wired : (s.ch.get c).irq = s.cfg.irq.get c)
    (run : exec i (s.poised rest s.ret) = .next ((s.poised rest s.ret).push [.op (.csEnter (chanNum c)), .cont k])) :
    ∃ key ls g,
      HostStep s (s.poised (.op (.csEnter (chanNum c)) :: .cont k :: rest) s.ret) ∧
      HostStep (s.poised (.op (.csEnter (chanNum c)) :: .cont k :: rest) s.ret)
        ((s.withMasks ls g).poised (.cont k :: rest) (.key key)) ∧
      Restores s key ls g := by
  obtain ⟨key, ls, g, enter, exit⟩ := critical_masks about.valid wired
  exact ⟨key, ls, g, .call about proc run (by simp),
    .op (u := s.withMasks ls g) about.valid nofun nofun (enter _ _) (.inr (by simp)), exit⟩

/-- CS_EXIT, and the return of the procedure. -/
theorem HostRuns.leave {s u : State} {key : Key} {ls : Pair Line} {g : Bool} {is : List Item} {v w : Value}
    (exit : Restores s key ls g) (valid : paramsValid u.cfg = true) (cfg : u.cfg = s.cfg) (lines : u.lines = ls)
    (gie : u.gie = g) (later : u.irqs = [] ∨ is ≠ []) :
    HostRuns (u.poised (.op (.csExit key) :: .cont (.ret w) :: is) v) ((u.withMasks s.lines s.gie).poised is w) :=
  (HostRuns.op (i := .csExit key) valid nofun nofun (exit u _ v cfg lines gie) (.inr (by simp))).trans
    (.ret (s := u.withMasks s.lines s.gie) valid later)

/-! Values of DMACR (10_state.md R42). -/

/-- A DMACR value that neither asks for a reset nor for an excluded mode, and holds the fields `cr`. -/
structure DmacrValue (x : Word) (cr : Dmacr) : Prop where
  reset : x.getLsbD 2 = false
  keyhole : x.getLsbD 3 = false
  cyclic : x.getLsbD 4 = false
  rs : x.getLsbD 0 = cr.rs
  iocIrqEn : x.getLsbD 12 = cr.iocIrqEn
  dlyIrqEn : x.getLsbD 13 = cr.dlyIrqEn
  errIrqEn : x.getLsbD 14 = cr.errIrqEn
  threshold : x.extractLsb' 16 8 = cr.irqThreshold
  delay : x.extractLsb' 24 8 = cr.irqDelay

/-- What a read returns outside a reset, whatever the draw. -/
theorem dmacrValue_read (cr : Dmacr) (d : Nat) : DmacrValue (dmacrRead cr false d) cr := by
  obtain ⟨keyhole, cyclic⟩ := dmacrRead_modes cr false d
  refine ⟨?_, keyhole, cyclic, ?_, ?_, ?_, ?_, dmacrRead_threshold cr false d, dmacrRead_delay cr false d⟩
  all_goals
    rw [getLsbD_dmacrRead_channel cr false d (by decide) (dmacrReserved_flags _ (by decide))]
    simp

theorem DmacrValue.clearRun {x : Word} {cr : Dmacr} (h : DmacrValue x cr) :
    DmacrValue (x &&& ~~~1#32) { cr with rs := false } := by
  have bit {i : Nat} (hi : i < 32) (high : 0 < i) : (x &&& ~~~1#32).getLsbD i = x.getLsbD i := by
    rw [BitVec.getLsbD_and, BitVec.getLsbD_not, BitVec.getLsbD_one]
    simp [hi, high.ne']
  have field {k : Nat} (hk : 0 < k) (fits : k + 8 ≤ 32) : (x &&& ~~~1#32).extractLsb' k 8 = x.extractLsb' k 8 := by
    apply BitVec.eq_of_getLsbD_eq
    intro i hi
    rw [BitVec.getLsbD_extractLsb', BitVec.getLsbD_extractLsb', bit (by omega) (by omega)]
  exact ⟨(bit (by decide) (by decide)).trans h.reset, (bit (by decide) (by decide)).trans h.keyhole,
    (bit (by decide) (by decide)).trans h.cyclic, by simp, (bit (by decide) (by decide)).trans h.iocIrqEn,
    (bit (by decide) (by decide)).trans h.dlyIrqEn, (bit (by decide) (by decide)).trans h.errIrqEn,
    (field (by decide) (by decide)).trans h.threshold, (field (by decide) (by decide)).trans h.delay⟩

/-- The fields START writes: RS and the three interrupt enables set, the coalescing parameters of the platform (R146). -/
def Dmacr.started (p : Params) : Dmacr :=
  ⟨true, true, true, true, BitVec.ofNat 8 p.irqThreshold, BitVec.ofNat 8 p.irqDelay⟩

theorem setWidth_ofNat_small {n : Nat} (h : n ≤ 255) : (BitVec.ofNat 8 n).setWidth 32 = BitVec.ofNat 32 n := by
  apply BitVec.eq_of_toNat_eq
  simp only [BitVec.toNat_setWidth, BitVec.toNat_ofNat]
  omega

theorem crStart_fields {p : Params} (threshold : p.irqThreshold ≤ 255) (delay : p.irqDelay ≤ 255) :
    crStart p = dmacrFields (.started p) false := by
  simp only [crStart, dmacrFields, Dmacr.started, setWidth_ofNat_small threshold, setWidth_ofNat_small delay]
  rfl

/-- START's value has its reserved bits 0. -/
theorem crStart_eq_read {p : Params} (threshold : p.irqThreshold ≤ 255) (delay : p.irqDelay ≤ 255) :
    crStart p = dmacrRead (.started p) false 0 := by
  apply BitVec.eq_of_getLsbD_eq
  intro i hi
  rw [dmacrRead, getLsbD_withDraw _ _ _ hi, ← crStart_fields threshold delay]
  cases reserved : dmacrReserved.getLsbD i with
  | false => rfl
  | true =>
    have low : i < 16 := by
      by_contra high
      rw [dmacrReserved_fields (not_lt.1 high)] at reserved
      cases reserved
    have base : (0x00007001#32).getLsbD i = false := by
      have disjoint : (dmacrReserved &&& 0x00007001#32).getLsbD i = false := BitVec.getLsbD_zero
      rwa [BitVec.getLsbD_and, reserved, Bool.true_and] at disjoint
    simp only [crStart, BitVec.getLsbD_or, BitVec.getLsbD_shiftLeft]
    simp [low, base, show i < 24 by omega]

theorem paramsValid_coalescing {p : Params} (valid : paramsValid p = true) :
    1 ≤ p.irqThreshold ∧ p.irqThreshold ≤ 255 ∧ p.irqDelay ≤ 255 := by
  simp only [paramsValid, Bool.and_eq_true, decide_eq_true_eq] at valid
  tauto

theorem dmacrValue_crStart {p : Params} (valid : paramsValid p = true) : DmacrValue (crStart p) (.started p) := by
  obtain ⟨-, threshold, delay⟩ := paramsValid_coalescing valid
  exact crStart_eq_read threshold delay ▸ dmacrValue_read (.started p) 0

theorem started_threshold_ne_zero {p : Params} (valid : paramsValid p = true) : (Dmacr.started p).irqThreshold ≠ 0 := by
  obtain ⟨positive, small, -⟩ := paramsValid_coalescing valid
  intro zero
  have value : p.irqThreshold % 256 = 0 := (BitVec.toNat_ofNat _ _).symm.trans (congrArg BitVec.toNat zero)
  omega

/-- The channel after a DMACR write of the fields `cr` (R182, R185). -/
def Eng.withCr (e : Eng) (cr : Dmacr) : Eng :=
  { e with
    cr := cr
    phase := if cr.rs = true ∧ e.phase = .halted then .idle else e.phase
    cnt := if cr.irqThreshold = e.cr.irqThreshold then e.cnt else cr.irqThreshold }

theorem writeDmacr_value {x : Word} {cr : Dmacr} (h : DmacrValue x cr) (legal : cr.irqThreshold ≠ 0) (c : Chan)
    (s : State) : writeDmacr c x s = .next ((s.setEng c ((s.eng.get c).withCr cr)).answer .unit) := by
  have threshold : thresholdField x = cr.irqThreshold := h.threshold
  refine writeDmacr_next.2 ⟨h.keyhole, h.cyclic, .inr (.inr ⟨h.reset, threshold ▸ legal, ?_⟩)⟩
  rw [writeCr_eq, threshold, h.rs, h.iocIrqEn, h.dlyIrqEn, h.errIrqEn, h.delay]
  rfl

theorem HostStep.writeCr {s : State} {x : Word} {cr : Dmacr} {is : List Item} {v : Value} (valid : paramsValid s.cfg = true)
    (ready : s.rstBusy = false) (value : DmacrValue x cr) (legal : cr.irqThreshold ≠ 0) (c : Chan) (more : is ≠ []) :
    HostStep (s.poised (.op (wrInstr c .dmacr x) :: is) v) ((s.setEng c ((s.eng.get c).withCr cr)).poised is .unit) :=
  .write valid ready (writeDmacr_value value legal c _) more

end Sys2Proof.Machine
end

section
/-! STOP and GET_STATUS (44_channel.md R331, R332; 10_state.md R57; 30_encoding.md R170). -/

namespace Sys2Proof.Machine

/-! STOP. -/

/-- Clearing RS leaves the phase and the countdown alone. -/
theorem Eng.withCr_stopped (e : Eng) :
    e.withCr { e.cr with rs := false } = { e with cr := { e.cr with rs := false } } := by
  simp [Eng.withCr]

/-- Settles O35: the value read is written back with RS cleared, so that no other field changes. -/
theorem stopClearsRunAlone : Obligations.StopClearsRunAlone := by
  intro s c rest about ready inv idle
  have valid := about.valid
  have legal : (s.eng.get c).cr.irqThreshold ≠ 0 :=
    (engLegal_iff.2 ⟨inv.pointers c, inv.counts c⟩).threshold
  obtain ⟨key, ls, g, called, entered, exit⟩ := HostStep.section_entered about rfl (inv.wired c)
    (withChannel_ready (s := s.poised rest s.ret) ready c _)
  let m := s.withMasks ls g
  let x := dmacrRead (s.eng.get c).cr false (s.choice 0)
  let e := (s.eng.get c).withCr { (s.eng.get c).cr with rs := false }
  let tail : List Item := .op (.csExit key) :: .cont (.ret (.code .ok)) :: rest
  have toRead : HostStep (m.poised (.cont (.stopKey c) :: rest) (.key key))
      (m.poised (.op (rdInstr c .dmacr) :: .cont (.stopCr c key) :: rest) (.key key)) := by
    refine .cont valid ?_ (.inr (by simp))
    rw [runPoint, stopKey, State.ret_poised, State.push_poised]
    rfl
  have read : HostStep (m.poised (.op (rdInstr c .dmacr) :: .cont (.stopCr c key) :: rest) (.key key))
      ((m.spend 1).poised (.cont (.stopCr c key) :: rest) (.word x)) := by
    have value : regValue m c .dmacr = x := congrArg (dmacrRead _ · _) idle
    exact value ▸ HostStep.read (s := m) valid c .dmacr (by simp)
  have toWrite : HostStep ((m.spend 1).poised (.cont (.stopCr c key) :: rest) (.word x))
      ((m.spend 1).poised (.op (wrInstr c .dmacr (x &&& ~~~1#32)) :: tail) (.word x)) := by
    refine .cont valid ?_ (.inr (by simp))
    rw [runPoint, stopCr, State.ret_poised, State.push_poised]
    rfl
  have written : HostStep ((m.spend 1).poised (.op (wrInstr c .dmacr (x &&& ~~~1#32)) :: tail) (.word x))
      (((m.spend 1).setEng c e).poised tail .unit) :=
    .writeCr (s := m.spend 1) valid idle (dmacrValue_read _ _).clearRun legal c (List.cons_ne_nil _ _)
  have left : HostRuns (((m.spend 1).setEng c e).poised tail .unit)
      ((((m.spend 1).setEng c e).withMasks s.lines s.gie).poised rest (.code .ok)) :=
    .leave exit valid rfl rfl rfl about.later
  obtain ⟨n, run, -⟩ := called.runs.trans (entered.runs.trans (toRead.runs.trans (read.runs.trans (toWrite.runs.trans
    (written.runs.trans left)))))
  refine ⟨n, _, run, State.code_poised .., State.ret_poised .., ?_, rfl, rfl, rfl, rfl, rfl, rfl, rfl, rfl,
    rfl, rfl, rfl, rfl, rfl, State.poised_interrupted ..⟩
  exact congrArg (s.eng.set c) (Eng.withCr_stopped _)

/-! GET_STATUS. -/

theorem dmasrRead_halted (e : Eng) (d : Nat) : (dmasrRead e d).getLsbD 0 = (e.phase == .halted) := by
  rw [getLsbD_dmasrRead_channel e d (by decide) (dmasrMask_channel _ _ (by decide)), getLsbD_dmasrFields e (by decide)]
  simp

/-- Neither HALTED nor IDLE is read exactly while the channel is busy: the draw of IDLE is made only while HALTED
(R56, R57). -/
theorem dmasrRead_busy (e : Eng) (d : Nat) :
    (!(dmasrRead e d).getLsbD 0 && !(dmasrRead e d).getLsbD 1) =
      decide (e.phase = .fetch ∨ e.phase = .xfer ∨ e.phase = .wb) := by
  rw [dmasrRead_halted]
  by_cases halted : e.phase = .halted
  · simp [halted]
  · rw [dmasrRead_idle_of_not_halted halted]
    cases phase : e.phase with
    | halted => exact absurd phase halted
    | idle | fetch | xfer | wb => rfl

/-- What GET_STATUS returns. -/
def Eng.statusValue (e : Eng) : Value := .status .ok (decide (e.phase = .fetch ∨ e.phase = .xfer ∨ e.phase = .wb))

theorem getStatus_expands {s : State} (ready : s.ctl = .ready) (c : Chan) (is : List Item) (v : Value) :
    exec (.getStatus (chanNum c)) (s.poised is v) =
      .next (s.poised (.op (rdInstr c .dmasr) :: .cont .statusSr :: is) v) :=
  (withChannel_ready (s := s.poised is v) ready c _).trans (congrArg _ (State.push_poised ..))

/-- The expansion of GET_STATUS makes one draw and returns. -/
theorem HostRuns.getStatus {s : State} {is : List Item} (valid : paramsValid s.cfg = true) (c : Chan)
    (later : s.irqs = [] ∨ is ≠ []) (v : Value) :
    HostRuns (s.poised (.op (rdInstr c .dmasr) :: .cont .statusSr :: is) v)
      ((s.spend 1).poised is (s.eng.get c).statusValue) := by
  have read := HostStep.read (is := .cont .statusSr :: is) (v := v) valid c .dmasr (by simp)
  refine read.runs.trans (HostStep.cont (s := s.spend 1) (u := s.spend 1) valid ?_ later).runs
  rw [runPoint, statusSr, State.answer_poised, State.ret_poised]
  exact congrArg (fun busy => (s.spend 1).poised is (.status .ok busy)) (dmasrRead_busy _ _)

/-! A program's line. -/

/-- The running context with other program values. -/
def State.withVals (s : State) (vals : List (Nat × Value)) : State := s.setRunning { s.running with vals := vals }

theorem State.withVals_interrupted (s : State) (vals : List (Nat × Value)) :
    (s.withVals vals).irqs.drop 1 = s.irqs.drop 1 := by
  rw [State.withVals, State.setRunning_irqs]
  cases s.irqs <;> rfl

theorem State.withVals_irqs_nil {s : State} (h : s.irqs = []) (vals : List (Nat × Value)) :
    (s.withVals vals).irqs = [] := by
  rw [State.withVals, State.setRunning_irqs, h]
  rfl

theorem State.vals_withVals_poised (s : State) (vals : List (Nat × Value)) (is : List Item) (v : Value) :
    ((s.withVals vals).poised is v).running.vals = vals := by
  simp [State.withVals, State.poised]

/-- The last step of a line: tD and tB take the result (R170). -/
theorem HostStep.assign {s : State} {is : List Item} (valid : paramsValid s.cfg = true) (d b : Option Nat)
    (later : s.irqs = [] ∨ is ≠ []) (v : Value) :
    HostStep (s.poised (.cont (.assign d b) :: is) v)
      ((s.withVals (assignResult s.running.vals d b v)).poised is v) := by
  refine .cont valid ?_ (later.imp_left fun thread => State.withVals_irqs_nil thread _)
  rw [runPoint, State.ret_poised]
  simp [State.assign, State.withVals, State.poised]

/-- The line `status tD, tB, c`. -/
def statusLine (c d b : Nat) : ProgLine := { word := 0x8600, args := { c := c }, dst := some d, dst2 := some b }

theorem lineInstr_statusLine (vals : List (Nat × Value)) (c d b : Nat) :
    lineInstr vals (statusLine c d b) = .next (.getStatus c) := by
  have spelled : decode 0x8600 { c := c } = .ok (.getStatus c) := decode_encode (.getStatus c)
  rw [lineInstr_resolved (x := { c := c }) rfl, programInstr, statusLine, spelled]
  rfl

/-- The first step of the line. -/
theorem HostStep.statusLine {s u : State} {c d b : Nat} {is js : List Item} {v w : Value}
    (valid : paramsValid s.cfg = true)
    (run : exec (.getStatus c) (s.poised (.cont (.assign (some d) (some b)) :: is) v) = .next (u.poised js w))
    (more : js ≠ []) : HostStep (s.poised (.line (statusLine c d b) :: is) v) (u.poised js w) := by
  refine .item valid nofun ?_ (.inr more)
  rw [runItem, runLine_of_lineInstr (lineInstr_statusLine _ c d b), lineTail]
  exact (congrArg _ (State.push_poised ..)).trans run

/-- Settles O36: the draw of IDLE is made only while HALTED, so that it cannot change busy. -/
theorem statusReportsBusy : Obligations.StatusReportsBusy := by
  refine ⟨fun s c rest about ready => ?procedure, fun s c d b rest valid ready code later apart => ?line,
    fun s c d b rest valid none_ code later => ?noChannel⟩
  case procedure =>
    have called := HostStep.op (i := .getStatus (chanNum c)) about.valid nofun nofun
      (getStatus_expands ready c rest s.ret) (.inr (by simp))
    rw [about.poised] at called
    obtain ⟨n, run, -⟩ := called.runs.trans (HostRuns.getStatus about.valid c about.later s.ret)
    exact ⟨n, _, run, State.code_poised .., State.ret_poised .., rfl, rfl, rfl, rfl, rfl, rfl, rfl, rfl, rfl,
      rfl, rfl, rfl, rfl, rfl, State.poised_interrupted ..⟩
  case line =>
    have start : s.poised (.line (statusLine (chanNum c) d b) :: rest) s.ret = s := code ▸ s.poised_self
    have called := HostStep.statusLine (d := d) (b := b) (is := rest) valid (getStatus_expands ready c _ s.ret) (by simp)
    rw [start] at called
    have expansion := HostRuns.getStatus (is := .cont (.assign (some d) (some b)) :: rest) valid c (.inr (by simp)) s.ret
    have assigned := HostStep.assign (s := s.spend 1) valid (some d) (some b) later (s.eng.get c).statusValue
    obtain ⟨n, run, -⟩ := called.runs.trans (expansion.trans assigned.runs)
    refine ⟨n, _, run, State.code_poised .., ?_, ?_, fun k notD notB => ?_, rfl, rfl, rfl, rfl, rfl,
      rfl, rfl, rfl, rfl, rfl, (State.poised_interrupted ..).trans (State.withVals_interrupted ..)⟩
    all_goals rw [State.vals_withVals_poised, lookupVal_assignResult]
    · simp [Eng.statusValue, Value.second, Value.first, apart]
    · simp [Eng.statusValue, Value.second]
    · simp [Eng.statusValue, Value.second, notD, notB]
  case noChannel =>
    have start : s.poised (.line (statusLine c d b) :: rest) s.ret = s := code ▸ s.poised_self
    have called := HostStep.statusLine (u := s) (d := d) (b := b) (is := rest) valid
      ((withChannel_noChannel none_ _ _).trans (congrArg _ (State.answer_poised s _ s.ret _))) (by simp)
    rw [start] at called
    have assigned := HostStep.assign valid (some d) (some b) later (.code .einval)
    obtain ⟨n, run, -⟩ := called.runs.trans assigned.runs
    refine ⟨n, _, run, State.code_poised .., ?_, rfl, rfl, rfl, rfl, rfl, rfl, rfl, rfl,
      (State.poised_interrupted ..).trans (State.withVals_interrupted ..)⟩
    rw [State.vals_withVals_poised, lookupVal_assignResult]
    simp [Value.second, Value.first]

end Sys2Proof.Machine
end

section
/-! START (44_channel.md R330; 30_encoding.md R146; 40_register_interface.md R182, R187; 70_reset_and_hazards.md R460). -/

namespace Sys2Proof.Machine

/-! Runs of the host alone, all of whose states keep a property. -/

/-- Steps of the host lead from `s` to `t`, and `P` holds all the way. -/
inductive HostSteps (P : State → Prop) : State → State → Prop
  | refl {s : State} : P s → HostSteps P s s
  | head {s t u : State} : P s → HostStep s t → HostSteps P t u → HostSteps P s u

theorem HostSteps.runs {P : State → Prop} {s t : State} (h : HostSteps P s t) : HostRuns s t := by
  induction h with
  | refl => exact .refl _
  | head _ step _ ih => exact step.runs.trans ih

/-- Once they lead to a state at which the host waits, `P` holds however often the host moves. -/
theorem HostSteps.always {P : State → Prop} {s t : State} (h : HostSteps P s t) (waits : stepAs .host t = .next t)
    (n : Nat) : ∃ u, hostRun n s = .next u ∧ P u := by
  induction n generalizing s with
  | zero =>
    cases h with
    | refl here => exact ⟨_, rfl, here⟩
    | head here => exact ⟨_, rfl, here⟩
  | succ n ih =>
    cases h with
    | refl here =>
      rw [hostRun_succ waits]
      exact ih (.refl here)
    | head here step rest =>
      rw [hostRun_succ step.2]
      exact ih rest

/-- The host waits at a FENCE while stores are pending (R222). -/
theorem waits_at_fence {s : State} (valid : paramsValid s.cfg = true) (pending : s.sb ≠ []) (is : List Item) (v : Value) :
    stepAs .host (s.poised (.op .fence :: is) v) = .next (s.poised (.op .fence :: is) v) := by
  rw [stepAs_op (s := s.poised (.op .fence :: is) v) valid (State.code_poised ..) (by decide), State.setCode_poised,
    exec_fence_pending (s := s.poised is v) pending, State.push_poised]
  exact congrArg _ (State.settle_poised s _ v (.inr (by simp)))

/-! What START does to the engine. -/

/-- A halted channel is started (R146). -/
def Eng.started (e : Eng) (p : Params) : Eng := if e.phase = .halted then e.withCr (.started p) else e

/-- The tail is written; in phase IDLE that starts the walk (R187). -/
def Eng.published (e : Eng) (t : Addr) : Eng :=
  { e with taildesc := t, phase := if e.phase = .idle then .fetch else e.phase }

/-- The whole of START's effect on the engine. -/
theorem Eng.published_started (e : Eng) (p : Params) (t : Addr) :
    (e.started p).published t = { e with
      cr := if e.phase = .halted then
          ⟨true, true, true, true, BitVec.ofNat 8 p.irqThreshold, BitVec.ofNat 8 p.irqDelay⟩
        else e.cr
      cnt := if e.phase = .halted ∧ BitVec.ofNat 8 p.irqThreshold ≠ e.cr.irqThreshold
        then BitVec.ofNat 8 p.irqThreshold else e.cnt
      taildesc := t
      phase := if e.phase = .halted ∨ e.phase = .idle then .fetch else e.phase } := by
  by_cases halted : e.phase = .halted
  · by_cases same : BitVec.ofNat 8 p.irqThreshold = e.cr.irqThreshold <;>
      simp [Eng.started, Eng.published, Eng.withCr, Dmacr.started, halted, same]
  · simp [Eng.started, Eng.published, halted]

theorem Eng.started_taildesc (e : Eng) (p : Params) : (e.started p).taildesc = e.taildesc := by
  unfold Eng.started
  split <;> rfl

/-- Starting a channel starts no walk: that is the tail's part. -/
theorem Eng.started_fetch {e : Eng} {p : Params} (h : (e.started p).phase = .fetch) : e.phase = .fetch := by
  unfold Eng.started at h
  split at h
  case isTrue halted => simp [Eng.withCr, Dmacr.started, halted] at h
  case isFalse => exact h

/-! START up to its first FENCE. -/

/-- No store has drained, and nothing is published to the engine (R330, R460). -/
structure Unpublished (c : Chan) (s t : State) : Prop where
  sb : t.sb = s.sb
  mem : t.mem = s.mem
  tail : (t.eng.get c).taildesc = (s.eng.get c).taildesc
  fetch : (t.eng.get c).phase = .fetch → (s.eng.get c).phase = .fetch
  other : t.eng.get (otherChan c) = s.eng.get (otherChan c)

/-- The state of START at its first FENCE: masked, DMASR read, and the channel started. -/
def State.startedIn (s : State) (c : Chan) (ls : Pair Line) (g : Bool) : State :=
  ((s.withMasks ls g).spend 1).setEng c ((s.eng.get c).started s.cfg)

theorem unpublished_startedIn (s : State) (c : Chan) (ls : Pair Line) (g : Bool) :
    Unpublished c s (s.startedIn c ls g) := by
  refine ⟨rfl, rfl, ?_, fun h => ?_, Pair.get_set_other _ _ (by cases c <;> nofun)⟩
  · rw [State.startedIn, State.setEng_eng, Pair.get_set_self, Eng.started_taildesc]
  · rw [State.startedIn, State.setEng_eng, Pair.get_set_self] at h
    exact Eng.started_fetch h

/-- DMASR's HALTED decides whether DMACR is written (R330). -/
theorem startSr_poised (c : Chan) (key : Key) (s : State) (e : Eng) (d : Nat) (is : List Item) :
    runPoint (.startSr c key) (s.poised is (.word (dmasrRead e d))) =
      s.poised ((if e.phase = .halted then [.op (wrInstr c .dmacr (crStart s.cfg))] else []) ++
        .op .fence :: .cont (.startTail c key) :: is) (.word (dmasrRead e d)) := by
  have halted : (Value.word (dmasrRead e d)).asWord.getLsbD 0 = (e.phase == .halted) := dmasrRead_halted e d
  rw [runPoint, startSr, State.ret_poised, State.push_poised, halted, List.append_assoc]
  simp only [beq_iff_eq]
  rfl

/-- START comes to its first FENCE, and publishes nothing on the way. -/
theorem start_enters {s : State} {c : Chan} {rest : List Item} (about : AboutTo s (.start (chanNum c)) rest)
    (ready : s.ctl = .ready) (configured : (s.ch.get c).configured = true) (inv : Inv s) (idle : s.rstBusy = false) :
    ∃ key ls g v, Restores s key ls g ∧
      HostSteps (Unpublished c s) s
        ((s.startedIn c ls g).poised (.op .fence :: .cont (.startTail c key) :: rest) v) := by
  have valid := about.valid
  obtain ⟨key, ls, g, called, entered, exit⟩ := HostStep.section_entered about rfl (inv.wired c)
    ((withChannel_ready (s := s.poised rest s.ret) ready c _).trans (whenConfigured_configured configured _))
  let m := s.withMasks ls g
  let e := s.eng.get c
  let x := dmasrRead e (s.choice 0)
  let toFence : List Item := .op .fence :: .cont (.startTail c key) :: rest
  have toRead : HostStep (m.poised (.cont (.startKey c) :: rest) (.key key))
      (m.poised (.op (rdInstr c .dmasr) :: .cont (.startSr c key) :: rest) (.key key)) := by
    refine .cont valid ?_ (.inr (by simp))
    rw [runPoint, startKey, State.ret_poised, State.push_poised]
    rfl
  have read : HostStep (m.poised (.op (rdInstr c .dmasr) :: .cont (.startSr c key) :: rest) (.key key))
      ((m.spend 1).poised (.cont (.startSr c key) :: rest) (.word x)) :=
    HostStep.read (s := m) valid c .dmasr (by simp)
  have decided := HostStep.cont (s := m.spend 1) valid (startSr_poised c key (m.spend 1) e (s.choice 0) rest)
    (.inr (by simp))
  have unchanged : Unpublished c s s := ⟨rfl, rfl, rfl, id, rfl⟩
  have masked (is : List Item) (v : Value) : Unpublished c s (m.poised is v) := ⟨rfl, rfl, rfl, id, rfl⟩
  have drawn (is : List Item) (v : Value) : Unpublished c s ((m.spend 1).poised is v) := ⟨rfl, rfl, rfl, id, rfl⟩
  have atFence (v : Value) : Unpublished c s ((s.startedIn c ls g).poised toFence v) :=
    { unpublished_startedIn s c ls g with }
  have arrives : ∃ v, HostSteps (Unpublished c s) ((m.spend 1).poised (.cont (.startSr c key) :: rest) (.word x))
      ((s.startedIn c ls g).poised toFence v) := by
    by_cases halted : e.phase = .halted
    · rw [if_pos halted] at decided
      have written : HostStep ((m.spend 1).poised (.op (wrInstr c .dmacr (crStart s.cfg)) :: toFence) (.word x))
          ((s.startedIn c ls g).poised toFence .unit) := by
        rw [State.startedIn, Eng.started, if_pos halted]
        exact .writeCr (s := m.spend 1) valid idle (dmacrValue_crStart valid) (started_threshold_ne_zero valid) c
          (List.cons_ne_nil _ _)
      exact ⟨.unit, .head (drawn _ _) decided (.head (drawn _ _) written (.refl (atFence _)))⟩
    · rw [if_neg halted] at decided
      have same : s.startedIn c ls g = m.spend 1 := by
        rw [State.startedIn, Eng.started, if_neg halted, State.setEng]
        exact congrArg (fun p => { m.spend 1 with eng := p }) (Pair.set_get _ _)
      rw [same]
      exact ⟨.word x, .head (drawn _ _) decided (.refl (drawn _ _))⟩
  obtain ⟨v, arrives⟩ := arrives
  exact ⟨key, ls, g, v, exit, .head unchanged called (.head ⟨rfl, rfl, rfl, id, rfl⟩ entered
    (.head (masked _ _) toRead (.head (masked _ _) read arrives)))⟩

/-! START from its first FENCE on. -/

theorem hi32_joinPtr (high low : Word) : hi32 (joinPtr high low) = high := by
  apply BitVec.eq_of_getLsbD_eq
  intro i hi
  rw [hi32, joinPtr, BitVec.getLsbD_extractLsb', BitVec.getLsbD_append]
  simp [hi]

theorem IsSlot.alignedLow {p : Params} {c : Chan} {d : Addr} (slot : IsSlot p c d) : alignedLow (lo32 d) = true := by
  rw [alignedLow_lo32, aligned64_iff]
  apply BitVec.eq_of_toNat_eq
  rw [BitVec.extractLsb'_toNat, Nat.shiftRight_zero]
  exact Nat.mod_eq_zero_of_dvd slot.aligned

/-- The tail's two halves written, the high word first (R330): together they are the tail. -/
theorem tailWritten_published (e : Eng) (t : Addr) :
    tailWritten { e with taildesc := joinPtr (hi32 t) (lo32 e.taildesc) } (lo32 t) = e.published t := by
  rw [tailWritten_eq]
  have whole : hi32 (joinPtr (hi32 t) (lo32 e.taildesc)) ++ lo32 t = t := by rw [hi32_joinPtr, hi32_append_lo32]
  exact congrArg e.published whole

/-- With no store pending, the tail is published, the masks are put back, and OK is returned. -/
theorem HostRuns.startTail {s u : State} {c : Chan} {key : Key} {ls : Pair Line} {g : Bool} {rest : List Item}
    (exit : Restores s key ls g) (valid : paramsValid u.cfg = true) (cfg : u.cfg = s.cfg) (lines : u.lines = ls)
    (gie : u.gie = g) (empty : u.sb = []) (idle : u.rstBusy = false) {t : Addr}
    (ht : t = descAddr u.cfg c (u.ch.get c).pop) (slot : IsSlot u.cfg c t) (later : u.irqs = [] ∨ rest ≠ [])
    (v : Value) :
    HostRuns (u.poised (.cont (.startTail c key) :: rest) v)
      (((u.setEng c ((u.eng.get c).published t)).withMasks s.lines s.gie).poised rest (.code .ok)) := by
  let e := u.eng.get c
  let high : Eng := { e with taildesc := joinPtr (hi32 t) (lo32 e.taildesc) }
  let leave : List Item := .op .fence :: .op (.csExit key) :: .cont (.ret (.code .ok)) :: rest
  have expands : HostStep (u.poised (.cont (.startTail c key) :: rest) v)
      (u.poised (.op (wrInstr c .taildescMsb (hi32 t)) :: .op (wrInstr c .taildescLsb (lo32 t)) :: leave) v) := by
    refine .cont valid ?_ (.inr (by simp))
    rw [runPoint, Machine.startTail, State.push_poised, ht]
    rfl
  have highWritten : HostStep
      (u.poised (.op (wrInstr c .taildescMsb (hi32 t)) :: .op (wrInstr c .taildescLsb (lo32 t)) :: leave) v)
      ((u.setEng c high).poised (.op (wrInstr c .taildescLsb (lo32 t)) :: leave) .unit) :=
    .write valid idle rfl (List.cons_ne_nil _ _)
  have lowWritten : HostStep ((u.setEng c high).poised (.op (wrInstr c .taildescLsb (lo32 t)) :: leave) .unit)
      ((u.setEng c (e.published t)).poised leave .unit) := by
    have whole : (u.setEng c high).setEng c (e.published t) = u.setEng c (e.published t) :=
      congrArg (fun p => { u with eng := p }) (Pair.set_set _ _ _ _)
    rw [← whole]
    refine .write (s := u.setEng c high) valid idle (writeTaildescLsb_next.2 ⟨slot.alignedLow, ?_⟩) (List.cons_ne_nil _ _)
    rw [← tailWritten_published]
    exact congrArg (fun e => State.answer (State.setEng _ c (tailWritten e _)) _) (Pair.get_set_self _ _ _)
  have fenced := HostStep.fence (s := u.setEng c (e.published t)) (v := .unit)
    (is := .op (.csExit key) :: .cont (.ret (.code .ok)) :: rest) valid empty (.inr (by simp))
  have left := HostRuns.leave (u := u.setEng c (e.published t)) (v := .unit) (w := .code .ok) exit valid cfg lines gie
    later
  exact expands.runs.trans (highWritten.runs.trans (lowWritten.runs.trans (fenced.runs.trans left)))

/-- The pending stores drained, every load returns what it did before, in COHERENT mode from memory (R108). -/
theorem State.drainAll_pending {s : State} (sound : PathSound s) (aligned : ∀ e ∈ s.sb, e.addr.toNat % 4 = 0) :
    (∀ a : Addr, a.toNat % 4 = 0 → (s.drainAll s.sb).hostWord a = s.loadWord a) ∧
    (s.cfg.cacheMode = .coherent → (s.drainAll s.sb).cache = s.cache ∧
      ∀ a : Addr, a.toNat % 4 = 0 → (s.drainAll s.sb).mem.readWord a = s.loadWord a) := by
  have loads (a : Addr) (ha : a.toNat % 4 = 0) : (s.drainAll s.sb).hostWord a = s.loadWord a :=
    State.hostWord_drainAll sound aligned ha
  have cfg : (s.drainAll s.sb).cfg = s.cfg := (pathOnly_drainAll s s.sb).cfg
  refine ⟨loads, fun coherent => ⟨?_, fun a ha => ?_⟩⟩
  · have drained := (drained_drainAll sound (at_ := fun _ => True) aligned fun _ _ => trivial).1.sound
    exact (drained.no_cache (cfg ▸ coherent)).trans (sound.no_cache coherent).symm
  · exact (State.hostWord_coherent (cfg ▸ coherent) a).symm.trans (loads a ha)

/-- Settles O34: up to the first FENCE nothing is published, and past it no store is pending. -/
theorem startPublishesTheTail : Obligations.StartPublishesTheTail := by
  intro s c rest e about ready configured inv idle he
  have valid := about.valid
  obtain ⟨-, cap, -, pop, -⟩ := recordLegal_iff.1 (inv.records c)
  have slot : IsSlot s.cfg c (descAddr s.cfg c (s.ch.get c).pop) := isSlot_descAddr valid (cap ▸ pop)
  obtain ⟨key, ls, g, v, exit, enters⟩ := start_enters about ready configured inv idle
  have engine (q : Pair Eng) (hq : q = s.eng.set c ((s.eng.get c).started s.cfg)) :
      q.set c ((q.get c).published (descAddr s.cfg c (s.ch.get c).pop)) = s.eng.set c e := by
    rw [hq, Pair.set_set, Pair.get_set_self, Eng.published_started, he]
  refine ⟨fun empty => ?none_pending, fun pending n => ?waits, fun bus => ?quiet⟩
  case none_pending =>
    have fenced := HostStep.fence (s := s.startedIn c ls g) (v := v) (is := .cont (.startTail c key) :: rest) valid empty
      (.inr (by simp))
    have tail := HostRuns.startTail (u := s.startedIn c ls g) exit valid rfl rfl rfl empty idle rfl slot about.later .unit
    obtain ⟨n, run, -⟩ := enters.runs.trans (fenced.runs.trans tail)
    exact ⟨n, _, run, State.code_poised .., State.ret_poised .., engine _ rfl, empty, rfl, rfl, rfl, rfl, rfl, rfl, rfl,
      rfl, rfl, rfl, rfl, rfl, State.poised_interrupted ..⟩
  case waits =>
    obtain ⟨t, run, still⟩ := enters.always (waits_at_fence (s := s.startedIn c ls g) valid pending _ v) n
    exact ⟨t, run, still.sb, still.mem, still.tail, still.fetch, still.other⟩
  case quiet =>
    let f := s.startedIn c ls g
    let d := f.drainAll s.sb
    have only : PathOnly f d := pathOnly_drainAll f s.sb
    have alike := only.alike
    obtain ⟨loads, memory⟩ := State.drainAll_pending (s := f) ⟨valid, inv.memory, inv.cache⟩ fun p hp =>
      (aligned4_iff _).1 (List.all_eq_true.1 inv.stores p hp)
    have fenced := QuietRuns.fence (s := f) (es := s.sb) (is := .cont (.startTail c key) :: rest) (v := v) valid bus
      (.inr (by simp))
    have cfg : d.cfg = s.cfg := alike.cfg
    have ch : d.ch = s.ch := only.ch
    have here : descAddr s.cfg c (s.ch.get c).pop = descAddr (d.withSb []).cfg c ((d.withSb []).ch.get c).pop := by
      rw [State.withSb_cfg, cfg, show (d.withSb []).ch = s.ch from ch]
    have tail := HostRuns.startTail (u := d.withSb []) (v := .unit) exit (cfg ▸ valid) cfg alike.lines alike.gie rfl
      (alike.rstBusy.trans idle) here (cfg ▸ slot) (alike.irqs ▸ about.later)
    obtain ⟨n, run⟩ := enters.runs.quiet.trans (fenced.trans tail.quiet)
    exact ⟨n, _, run, State.code_poised .., State.ret_poised .., engine _ alike.eng, rfl, loads, memory, ch,
      congrArg Parts.cblog only.parts, cfg, alike.rstBusy, rfl, rfl, alike.ctl, alike.outs, alike.logs,
      (State.poised_interrupted ..).trans (congrArg (List.drop 1) alike.irqs)⟩

end Sys2Proof.Machine
end

section
/-! ISR: what it does goes by its one read of DMASR, whatever the engines do after it (45_interrupt.md R350;
40_register_interface.md R188). -/

namespace Sys2Proof.Machine

/-! The engines' steps in a run: the host's side stays as it is. -/

theorem SameHost.refl (s : State) : SameHost s s := ⟨rfl, rfl, rfl, rfl, rfl, rfl, rfl, rfl, rfl, rfl, rfl⟩

theorem SameHost.trans {s t u : State} (h : SameHost s t) (k : SameHost t u) : SameHost s u :=
  ⟨k.cfg.trans h.cfg, k.gie.trans h.gie, k.lines.trans h.lines, k.thread.trans h.thread, k.irqs.trans h.irqs,
    k.sb.trans h.sb, k.cache.trans h.cache, k.ch.trans h.ch, k.ctl.trans h.ctl, k.cblog.trans h.cblog,
    k.logs.trans h.logs⟩

theorem SameHost.running {s t : State} (h : SameHost s t) : t.running = s.running := by
  rw [State.running, State.running, h.irqs, h.thread]

/-- The state with the host's side of another, the parameters apart. -/
def State.withHostOf (s t : State) : State :=
  { s with
    gie := t.gie, lines := t.lines, thread := t.thread, irqs := t.irqs, sb := t.sb, cache := t.cache, ch := t.ch
    ctl := t.ctl, cblog := t.cblog, logs := t.logs }

theorem besideEngine_withHostOf (c : Chan) (t : State) : BesideEngine c (State.withHostOf · t) := by
  constructor <;> intros <;> rfl

theorem SameHost.of_withHostOf {s t : State} (cfg : t.cfg = s.cfg) (fixed : t.withHostOf s = t) : SameHost s t :=
  fixed ▸ ⟨cfg, rfl, rfl, rfl, rfl, rfl, rfl, rfl, rfl, rfl, rfl⟩

section
variable {i : Instr} {c : Chan} (engine : engineChan i = some c)
include engine

/-- The host's side is beside the engine that steps (R251). -/
theorem exec_engine_sameHost {s t : State} (h : exec i s = .next t) : SameHost s t :=
  .of_withHostOf (whoWritesWhat i s t h).1 ((besideEngine_withHostOf c s).fixed engine rfl h)

theorem exec_engine_rstBusy {s t : State} (h : exec i s = .next t) : t.rstBusy = s.rstBusy := by
  have parts := exec_parts h
  cases i with
  | eHalt | eFetch | eXferTx | eXferRx | eWb | eDelay => exact congrArg Parts.rstBusy parts
  | _ => cases engine

theorem engine_opClass : i.opClass = .auto := by
  cases i with
  | eHalt | eFetch | eXferTx | eXferRx | eWb | eDelay => rfl
  | _ => cases engine

theorem engine_decodes : decode (encodeWord i) {} = .ok i := by
  have spelled := decode_encode i
  cases i with
  | eHalt | eFetch | eXferTx | eXferRx | eWb | eDelay => exact spelled
  | _ => cases engine

end

/-- A run of the engines' steps leaves the host's side and a reset in progress as they are. -/
theorem autoRun_engines {is : List Instr} (engines : ∀ i ∈ is, (engineChan i).isSome = true) {s t : State}
    (valid : paramsValid s.cfg = true) (run : autoRun is s = .next t) : SameHost s t ∧ t.rstBusy = s.rstBusy := by
  induction is generalizing s with
  | nil =>
    cases run
    exact ⟨.refl _, rfl⟩
  | cons i is ih =>
    obtain ⟨engine, engines⟩ := List.forall_mem_cons.1 engines
    obtain ⟨c, engine⟩ := Option.isSome_iff_exists.1 engine
    rw [autoRun_cons valid (engine_decodes engine) (engine_opClass engine), bindNext_next] at run
    obtain ⟨u, step, run⟩ := run
    have same := exec_engine_sameHost engine step
    obtain ⟨later, busy⟩ := ih engines (same.cfg ▸ valid) run
    exact ⟨same.trans later, busy.trans (exec_engine_rstBusy engine step)⟩

/-! What ISR does to the engine and to the log. -/

/-- The pending bits a read of DMASR returns, whatever the draw (R180). -/
theorem dmasrRead_pending (e : Eng) (d : Nat) :
    (dmasrRead e d).getLsbD 12 = e.sr.iocIrq ∧ (dmasrRead e d).getLsbD 13 = e.sr.dlyIrq ∧
      (dmasrRead e d).getLsbD 14 = e.sr.errIrq := by
  refine ⟨?_, ?_, ?_⟩
  all_goals
    rw [getLsbD_dmasrRead_channel e d (by decide) (dmasrMask_channel _ _ (by decide)),
      getLsbD_dmasrFields e (by decide)]
    simp

/-- The channel with its error acknowledged, if `err`, and its completion and delay acknowledged together, if `done`. -/
def Eng.acked (e : Eng) (err done : Bool) : Eng :=
  { e with sr := { e.sr with
      iocIrq := e.sr.iocIrq && !done, dlyIrq := e.sr.dlyIrq && !done, errIrq := e.sr.errIrq && !err } }

theorem Eng.acked_nothing (e : Eng) : e.acked false false = e := by simp [Eng.acked]

/-- Acknowledging the error that is pending leaves none pending, and so with all three bits. -/
theorem Eng.acked_pending_error (e : Eng) :
    e.acked e.sr.errIrq false = { e with sr := { e.sr with errIrq := false } } := by
  simp [Eng.acked]

theorem Eng.acked_pending_all (e : Eng) :
    e.acked e.sr.errIrq true = { e with sr := { e.sr with iocIrq := false, dlyIrq := false, errIrq := false } } := by
  simp [Eng.acked]

/-- The mask BIT(14) clears ERR alone (R188, R350). -/
theorem ackDmasr_ackErr (e : Eng) : ackDmasr e ackErr = e.acked true false := by simp [ackDmasr, ackErr, Eng.acked]

/-- The mask BIT(12) | BIT(13) clears IOC and DLY together, whichever is pending (R188, R350). -/
theorem ackDmasr_ackIoc (e : Eng) (err : Bool) : ackDmasr (e.acked err false) ackIoc = e.acked err true := by
  simp [ackDmasr, ackIoc, Eng.acked]

/-- The state with a channel acknowledged, and its error, if it has one, logged. -/
def State.handled (s : State) (c : Chan) (err done : Bool) : State :=
  { s with
    eng := s.eng.set c ((s.eng.get c).acked err done)
    logs := if err then s.logs ++ ["DMA error"] else s.logs }

theorem State.handled_nothing (s : State) (c : Chan) : s.handled c false false = s := by
  rw [State.handled, Eng.acked_nothing, Pair.set_get]
  rfl

/-- An error is logged, then acknowledged. -/
theorem State.logged_setEng_acked (s : State) (c : Chan) :
    ({ s with logs := s.logs ++ ["DMA error"] } : State).setEng c (ackDmasr (s.eng.get c) ackErr) =
      s.handled c true false := by
  rw [ackDmasr_ackErr]
  rfl

theorem State.handled_setEng_acked (s : State) (c : Chan) (err : Bool) :
    (s.handled c err false).setEng c (ackDmasr ((s.handled c err false).eng.get c) ackIoc) = s.handled c err true := by
  rw [State.handled, Pair.get_set_self, ackDmasr_ackIoc, State.setEng, Pair.set_set]
  rfl

/-- A line that was masked and is enabled again if it was enabled is as it was. -/
theorem State.enabled_again {s u : State} {c : Chan} (masked : u.lines = (s.setEn c false).lines) :
    (if (s.lines.get c).en then u.setEn c true else u) = u.withMasks s.lines u.gie := by
  have again : u.setEn c (s.lines.get c).en = u.withMasks s.lines u.gie := by
    simp only [State.setEn, masked]
    cases c <;> rfl
  rw [← again]
  cases (s.lines.get c).en with
  | true => rfl
  | false =>
    have still : u.lines.set c { u.lines.get c with en := false } = u.lines := by
      rw [masked]
      cases c <;> rfl
    exact congrArg (fun ls => { u with lines := ls }) still.symm

/-! The operations of ISR, from its program point after the read on. -/

/-- What ISR runs for an error it read. -/
def errorItems (c : Chan) (err : Bool) : List Item :=
  if err then [.op (.log "DMA error"), .op (wrInstr c .dmasr ackErr)] else []

/-- What ISR runs for a completion or a delay it read. -/
def workItems (c : Chan) (done : Bool) : List Item :=
  if done then [.op (wrInstr c .dmasr ackIoc), .op (.reclaim (chanNum c))] else []

/-- What ISR, called in `s`, runs last: the line is enabled again if it was enabled, and ISR returns. -/
def enableItems (s : State) (c : Chan) (rest : List Item) : List Item :=
  (if (s.lines.get c).en then [.op (.irqEnable (s.cfg.irq.get c))] else []) ++ .cont (.ret .unit) :: rest

theorem enableItems_ne_nil (s : State) (c : Chan) (rest : List Item) : enableItems s c rest ≠ [] := by
  simp [enableItems]

/-- The program point after the read of ISR, called in `s`. -/
def isrPoint (s : State) (c : Chan) : Cont := .isrSr c (s.cfg.irq.get c) (s.lines.get c).en

theorem isrPoint_poised (s w : State) (c : Chan) (e : Eng) (d : Nat) (rest : List Item) :
    runPoint (isrPoint s c) (w.poised rest (.word (dmasrRead e d))) =
      w.poised (errorItems c e.sr.errIrq ++ (workItems c (e.sr.iocIrq || e.sr.dlyIrq) ++ enableItems s c rest))
        (.word (dmasrRead e d)) := by
  obtain ⟨ioc, dly, err⟩ := dmasrRead_pending e d
  rw [isrPoint, runPoint, isrSr, State.ret_poised, State.push_poised]
  simp only [Value.asWord, ioc, dly, err, errorItems, workItems, enableItems, List.append_assoc, List.singleton_append]

section
variable {s : State} {is rest : List Item} {v : Value} {c : Chan}

theorem HostStep.log (valid : paramsValid s.cfg = true) (msg : String) (more : is ≠ []) :
    HostStep (s.poised (.op (.log msg) :: is) v) (({ s with logs := s.logs ++ [msg] } : State).poised is .unit) :=
  .op (u := { s with logs := s.logs ++ [msg] }) valid nofun nofun
    (congrArg _ (State.answer_poised { s with logs := s.logs ++ [msg] } is v .unit)) (.inr more)

theorem HostStep.ack (valid : paramsValid s.cfg = true) (idle : s.rstBusy = false) (c : Chan) (mask : Word)
    (more : is ≠ []) :
    HostStep (s.poised (.op (wrInstr c .dmasr mask) :: is) v)
      ((s.setEng c (ackDmasr (s.eng.get c) mask)).poised is .unit) :=
  .write valid idle rfl more

/-- An error read is logged and acknowledged. -/
theorem HostRuns.errorHandled (valid : paramsValid s.cfg = true) (idle : s.rstBusy = false) (c : Chan) (err : Bool)
    (more : is ≠ []) : ∃ w, HostRuns (s.poised (errorItems c err ++ is) v) ((s.handled c err false).poised is w) := by
  cases err with
  | false =>
    rw [State.handled_nothing]
    exact ⟨v, .refl _⟩
  | true =>
    have logged := HostStep.log (v := v) (is := .op (wrInstr c .dmasr ackErr) :: is) valid "DMA error" (by simp)
    have acked := HostStep.ack (s := { s with logs := s.logs ++ ["DMA error"] }) (v := .unit) valid idle c ackErr more
    rw [State.logged_setEng_acked] at acked
    exact ⟨.unit, logged.runs.trans acked.runs⟩

/-- The end of ISR: the line is as it was. -/
theorem HostRuns.lineRestored {u : State} (valid : paramsValid u.cfg = true) (cfg : u.cfg = s.cfg)
    (masked : u.lines = (s.setEn c false).lines) (later : u.irqs = [] ∨ rest ≠ []) :
    HostRuns (u.poised (enableItems s c rest) v) ((u.withMasks s.lines u.gie).poised rest .unit) := by
  rw [← State.enabled_again masked, enableItems, ← cfg]
  cases (s.lines.get c).en with
  | false => exact .ret valid later
  | true =>
    have enabled : exec (.irqEnable (u.cfg.irq.get c)) (u.poised (.cont (.ret .unit) :: rest) v) =
        .next ((u.setEn c true).poised (.cont (.ret .unit) :: rest) .unit) :=
      (onLine_irq (s := u.poised _ v) valid c _).trans (congrArg _ (State.answer_poised (u.setEn c true) _ v .unit))
    exact (HostStep.op (i := .irqEnable _) valid nofun nofun enabled (.inr (by simp))).runs.trans
      (.ret (s := u.setEn c true) valid later)

end

/-! ISR up to its read. -/

section
variable {s : State} {c : Chan} {rest : List Item}

/-- ISR before its read: the line is disabled. -/
def State.isrMasked (s : State) (c : Chan) (rest : List Item) : State :=
  (s.setEn c false).poised (.op (rdInstr c .dmasr) :: .cont (isrPoint s c) :: rest) .unit

/-- ISR after its read. -/
def State.isrRead (s : State) (c : Chan) (rest : List Item) : State :=
  ((s.setEn c false).spend 1).poised (.cont (isrPoint s c) :: rest) (.word (dmasrRead (s.eng.get c) (s.choice 0)))

theorem HostRuns.isrMasked (about : AboutTo s (.isr (chanNum c)) rest) (ready : s.ctl = .ready) (inv : Inv s) :
    HostRuns s (s.isrMasked c rest) := by
  have valid := about.valid
  let l := s.cfg.irq.get c
  let was := (s.lines.get c).en
  let masking : List Item := .op (.irqDisable l) :: .op (rdInstr c .dmasr) :: .cont (isrPoint s c) :: rest
  have called := HostStep.call about rfl (withReady_ready (s := s.poised rest s.ret) ready c _) (by simp)
  rw [State.poised_ch, inv.wired c] at called
  have asked : HostStep (s.poised (.op (.irqIsEnabled l) :: .cont (.isrWas c l) :: rest) s.ret)
      (s.poised (.cont (.isrWas c l) :: rest) (.bool was)) :=
    .op valid nofun nofun ((onLine_irq (s := s.poised _ s.ret) valid c _).trans (congrArg _ (State.answer_poised ..)))
      (.inr (by simp))
  have toMask : HostStep (s.poised (.cont (.isrWas c l) :: rest) (.bool was)) (s.poised masking (.bool was)) := by
    refine .cont valid ?_ (.inr (by simp [masking]))
    rw [runPoint, isrWas, State.ret_poised, State.push_poised]
    rfl
  have disabled : HostStep (s.poised masking (.bool was)) (s.isrMasked c rest) :=
    .op (u := s.setEn c false) valid nofun nofun ((onLine_irq (s := s.poised _ (.bool was)) valid c _).trans
      (congrArg _ (State.answer_poised (s.setEn c false) _ _ .unit))) (.inr (by simp))
  exact called.runs.trans (asked.runs.trans (toMask.runs.trans disabled.runs))

theorem HostStep.isrRead (valid : paramsValid s.cfg = true) (c : Chan) (rest : List Item) :
    HostStep (s.isrMasked c rest) (s.isrRead c rest) :=
  .read (s := s.setEn c false) valid c .dmasr (by simp)

/-! ISR after its read, in a state `w` to which the engines have gone meanwhile. -/

variable {w : State} (same : SameHost (s.isrRead c rest) w)
include same

theorem SameHost.isrPoised :
    w.poised (.cont (isrPoint s c) :: rest) (.word (dmasrRead (s.eng.get c) (s.choice 0))) = w := by
  have code : w.code = .cont (isrPoint s c) :: rest :=
    (congrArg Ctx.code same.running).trans (State.code_poised ..)
  have ret : w.ret = .word (dmasrRead (s.eng.get c) (s.choice 0)) :=
    (congrArg Ctx.ret same.running).trans (State.ret_poised ..)
  rw [← code, ← ret]
  exact w.poised_self

theorem SameHost.isrLater (later : s.irqs = [] ∨ rest ≠ []) : w.irqs = [] ∨ rest ≠ [] := by
  refine later.imp_left fun thread => ?_
  rw [same.irqs, State.isrRead, State.poised, State.setRunning_irqs, State.spend_irqs, State.setEn_irqs, thread]
  rfl

variable (valid : paramsValid s.cfg = true) (idle : w.rstBusy = false)
include valid idle

/-- ISR runs on from what it read, and not from what is pending in `w`. -/
theorem HostRuns.isrJudged : ∃ v, HostRuns w ((w.handled c (s.eng.get c).sr.errIrq false).poised
    (workItems c ((s.eng.get c).sr.iocIrq || (s.eng.get c).sr.dlyIrq) ++ enableItems s c rest) v) := by
  have valid' : paramsValid w.cfg = true := same.cfg ▸ valid
  have more (js : List Item) : js ++ enableItems s c rest ≠ [] :=
    List.append_ne_nil_of_right_ne_nil _ (enableItems_ne_nil _ _ _)
  have judged := HostStep.cont valid' (isrPoint_poised s w c (s.eng.get c) (s.choice 0) rest)
    (.inr (List.append_ne_nil_of_right_ne_nil _ (more _)))
  rw [same.isrPoised] at judged
  obtain ⟨v, handled⟩ := HostRuns.errorHandled valid' idle c (s.eng.get c).sr.errIrq (more _)
  exact ⟨v, judged.runs.trans handled⟩

/-- With a completion or a delay read, both are acknowledged and RECLAIM comes next. -/
theorem HostRuns.isrReclaims (done : ((s.eng.get c).sr.iocIrq || (s.eng.get c).sr.dlyIrq) = true) :
    HostRuns w ((w.handled c (s.eng.get c).sr.errIrq true).poised
      (.op (.reclaim (chanNum c)) :: enableItems s c rest) .unit) := by
  obtain ⟨v, judged⟩ := HostRuns.isrJudged same valid idle
  rw [workItems, if_pos done] at judged
  have acked := HostStep.ack (s := w.handled c (s.eng.get c).sr.errIrq false) (v := v) (same.cfg ▸ valid) idle c
    ackIoc (List.cons_ne_nil (.op (.reclaim (chanNum c))) (enableItems s c rest))
  rw [State.handled_setEng_acked] at acked
  exact judged.trans acked.runs

/-- With neither read, ISR ends with the line as it was. -/
theorem HostRuns.isrReturns (done : ((s.eng.get c).sr.iocIrq || (s.eng.get c).sr.dlyIrq) = false)
    (later : s.irqs = [] ∨ rest ≠ []) :
    HostRuns w (((w.handled c (s.eng.get c).sr.errIrq false).withMasks s.lines w.gie).poised rest .unit) := by
  obtain ⟨v, judged⟩ := HostRuns.isrJudged same valid idle
  rw [done] at judged
  exact judged.trans (.lineRestored (same.cfg ▸ valid) same.cfg same.lines (same.isrLater later))

end

/-- Settles O37: the read decides the rest of ISR's code, and the engines' steps after it leave that code as it is. -/
theorem isrAcknowledgesWhatItRead : Obligations.IsrAcknowledgesWhatItRead := by
  refine ⟨fun s c rest about ready inv idle => ?alone, ?between⟩
  case alone =>
    have reads : HostRuns s (s.isrRead c rest) :=
      (HostRuns.isrMasked about ready inv).trans (HostStep.isrRead about.valid c rest).runs
    refine ⟨fun ioc dly => ?spurious, fun pending => ?pending⟩
    case spurious =>
      obtain ⟨n, run, -⟩ := reads.trans (.isrReturns (.refl _) about.valid idle (by simp [ioc, dly]) about.later)
      refine ⟨n, _, run, State.code_poised .., State.ret_poised .., rfl, ?_, rfl, rfl, rfl, rfl, rfl, rfl, rfl,
        rfl, rfl, rfl, rfl, rfl, (State.poised_interrupted ..).trans (State.poised_interrupted ..)⟩
      exact congrArg (s.eng.set c) (s.eng.get c).acked_pending_error
    case pending =>
      obtain ⟨n, run, -⟩ := reads.trans (.isrReclaims (.refl _) about.valid idle (by simpa using pending))
      refine ⟨n, _, run, State.code_poised .., rfl, ?_, rfl, rfl, rfl, rfl, rfl, rfl, rfl,
        rfl, rfl, rfl, rfl, rfl, (State.poised_interrupted ..).trans (State.poised_interrupted ..)⟩
      exact congrArg (s.eng.set c) (s.eng.get c).acked_pending_all
  case between =>
    rintro s c rest _ done about ready inv idle rfl read
    obtain ⟨n, masked, -⟩ := HostRuns.isrMasked about ready inv
    refine ⟨n, _, _, masked, congrArg List.head? (State.code_poised ..), rfl, (HostStep.isrRead about.valid c rest).2,
      fun is w engines run => ?_⟩
    obtain ⟨same, busy⟩ := autoRun_engines (s := s.isrRead c rest) engines about.valid run
    have logs : w.logs = s.logs := same.logs
    rw [← logs]
    cases done with
    | true =>
      obtain ⟨m, run, -⟩ := HostRuns.isrReclaims same about.valid (busy.trans idle) read.symm
      exact ⟨m, _, run, State.code_poised .., same.lines, rfl, rfl, same.gie, same.sb, rfl, same.cache, same.ch,
        same.cblog, rfl, rfl, rfl, rfl, rfl, State.poised_interrupted ..⟩
    | false =>
      obtain ⟨m, run, -⟩ := HostRuns.isrReturns same about.valid (busy.trans idle) read.symm about.later
      exact ⟨m, _, run, State.code_poised .., rfl, rfl, rfl, same.gie, same.sb, rfl, same.cache, same.ch,
        same.cblog, rfl, rfl, rfl, rfl, rfl, State.poised_interrupted ..⟩

end Sys2Proof.Machine
end

section
/-! The channel filter, and CONFIGURE's linked-mode selector (46_configure.md R367, R372). -/

namespace Sys2Proof.Machine

theorem chanFilterResult_eq (c : Nat) (tag : String) :
    chanFilterResult c tag = decide ((c = 0 ∧ tag = "tx") ∨ (c = 1 ∧ tag = "rx")) := by
  rw [Bool.eq_iff_iff]
  simp only [chanFilterResult, Bool.or_eq_true, Bool.and_eq_true, beq_iff_eq, decide_eq_true_eq]

section
variable {p : Params} {m : Int}

theorem linkedMode_noCsum (h : m = p.linkedNoCsum) (c : Chan) (r : Record) :
    linkedMode p c m r = some { r with app0 := 0, csumChk := false } := if_pos h

theorem linkedMode_fullCsum_tx (other : m ≠ p.linkedNoCsum) (h : m = p.linkedFullCsum) (r : Record) :
    linkedMode p .tx m r = some { r with app0 := p.app0CsumFull, csumChk := false } :=
  (if_neg other).trans (if_pos h)

theorem linkedMode_fullCsum_rx (other : m ≠ p.linkedNoCsum) (h : m = p.linkedFullCsum) (r : Record) :
    linkedMode p .rx m r = some { r with app0 := 0, csumChk := true } :=
  (if_neg other).trans (if_pos h)

theorem linkedMode_invalid (noCsum : m ≠ p.linkedNoCsum) (fullCsum : m ≠ p.linkedFullCsum) (c : Chan) (r : Record) :
    linkedMode p c m r = none :=
  (if_neg noCsum).trans (if_neg fullCsum)

end

theorem cfgLinked_invalid {s : State} {c : Chan} {q : CfgReq}
    (h : linkedMode s.cfg c q.linked (s.ch.get c) = none) : cfgLinked c q s = s.answer (.code .einval) := by
  rw [cfgLinked, h]

/-- Settles O28: the filter's comparison, and the selector case by case. -/
theorem filterAndLinkedMode : Obligations.FilterAndLinkedMode := by
  refine ⟨fun s c tag => ?filter, fun p c m r => ⟨fun h => linkedMode_noCsum h c r, fun other h => ?full,
    fun noCsum fullCsum => ?invalid⟩⟩
  case filter =>
    rw [← chanFilterResult_eq]
    rfl
  case full => exact ⟨linkedMode_fullCsum_tx other h r, linkedMode_fullCsum_rx other h r⟩
  case invalid =>
    refine ⟨linkedMode_invalid noCsum fullCsum c r, ?_⟩
    rintro s q rfl rfl rfl
    exact cfgLinked_invalid (linkedMode_invalid noCsum fullCsum c _)

end Sys2Proof.Machine
end

section
/-! CONFIGURE up to its block walk: the cursors, the ring, CURDESC, the linked mode and the callback (46_configure.md R365,
R367; 43_ring.md R300; 40_register_interface.md R186). -/

namespace Sys2Proof.Machine

/-! The invariant in a quiet run. -/

theorem Inv.stepAs {s t : State} (inv : Inv s) {a : Turn} (h : stepAs a s = .next t) : Inv t :=
  everyStepKeepsTheInvariant { s with turns := a :: s.turns } t { inv with } h

theorem Inv.quietStep {s t : State} (inv : Inv s) (h : quietStep s = .next t) : Inv t := by
  unfold Machine.quietStep at h
  split at h
  · exact Inv.stepAs (s := { s with draws := 0 :: s.draws }) { inv with } h
  · exact inv.stepAs h

theorem QuietRuns.inv {s t : State} (h : QuietRuns s t) (inv : Inv s) : Inv t := by
  obtain ⟨n, run⟩ := h
  induction n generalizing s with
  | zero =>
    cases run
    exact inv
  | succ n ih =>
    obtain ⟨u, step, rest⟩ := bindNext_next.1 run
    exact ih (inv.quietStep step) rest

/-! The bytes of a word that memory holds as the host sees it. -/

theorem wordOfBytes_inj {a0 a1 a2 a3 b0 b1 b2 b3 : Byte} (h : wordOfBytes a0 a1 a2 a3 = wordOfBytes b0 b1 b2 b3) :
    a0 = b0 ∧ a1 = b1 ∧ a2 = b2 ∧ a3 = b3 := by
  obtain ⟨h0, h1, h2, h3⟩ := extractLsb'_wordOfBytes a0 a1 a2 a3
  rw [h] at h0 h1 h2 h3
  obtain ⟨k0, k1, k2, k3⟩ := extractLsb'_wordOfBytes b0 b1 b2 b3
  exact ⟨h0.symm.trans k0, h1.symm.trans k1, h2.symm.trans k2, h3.symm.trans k3⟩

theorem read_eq_hostByte_of_word {s : State} {a : Addr} (h : s.mem.readWord a = s.hostWord a)
    (fits : a.toNat + 4 ≤ 2 ^ 64) {x : Nat} (hx : InSpan a.toNat 4 x) : s.mem.read x = s.hostByte x := by
  obtain ⟨h0, h1, h2, h3⟩ := wordOfBytes_inj h
  rw [Nat.mod_eq_of_lt (by omega)] at h1 h2 h3
  obtain ⟨lower, upper⟩ := hx
  obtain rfl | rfl | rfl | rfl : x = a.toNat ∨ x = a.toNat + 1 ∨ x = a.toNat + 2 ∨ x = a.toNat + 3 := by omega
  · exact h0
  · exact h1
  · exact h2
  · exact h3

/-! The engine's fetch pointers and the linked mode. -/

/-- The channel with CURDESC, and so FP, at `a` (R186). -/
def Eng.fetchAt (e : Eng) (a : Addr) : Eng := { e with curdesc := a, fp := a }

/-- CURDESC written in a halted channel, its high half first. -/
theorem HostRuns.writeCurdesc {s : State} {c : Chan} {a : Addr} {is : List Item} (valid : paramsValid s.cfg = true)
    (idle : s.rstBusy = false) (halted : (s.eng.get c).phase = .halted) (aligned : alignedLow (lo32 a) = true)
    (more : is ≠ []) (v : Value) :
    HostRuns (s.poised (.op (wrInstr c .curdescMsb (hi32 a)) :: .op (wrInstr c .curdescLsb (lo32 a)) :: is) v)
      ((s.setEng c ((s.eng.get c).fetchAt a)).poised is .unit) := by
  let high := (s.eng.get c).fetchAt (joinPtr (hi32 a) (lo32 (s.eng.get c).curdesc))
  have highWritten : HostStep
      (s.poised (.op (wrInstr c .curdescMsb (hi32 a)) :: .op (wrInstr c .curdescLsb (lo32 a)) :: is) v)
      ((s.setEng c high).poised (.op (wrInstr c .curdescLsb (lo32 a)) :: is) .unit) :=
    .write valid idle (writeCurdescMsb_next.2 ⟨halted, rfl⟩) (List.cons_ne_nil _ _)
  have here : (s.setEng c high).eng.get c = high := Pair.get_set_self ..
  have whole : joinPtr (hi32 high.curdesc) (lo32 a) = a :=
    (congrArg (joinPtr · (lo32 a)) (hi32_joinPtr _ _)).trans (hi32_append_lo32 a)
  have lowWritten : HostStep ((s.setEng c high).poised (.op (wrInstr c .curdescLsb (lo32 a)) :: is) .unit)
      (((s.setEng c high).setEng c ((s.eng.get c).fetchAt a)).poised is .unit) := by
    refine .write (s := s.setEng c high) valid idle (writeCurdescLsb_next.2 ⟨?_, aligned, ?_⟩) more
    · exact (congrArg Eng.phase here).trans halted
    · rw [State.poised_eng, here, whole]
      rfl
  have twice : (s.setEng c high).setEng c ((s.eng.get c).fetchAt a) = s.setEng c ((s.eng.get c).fetchAt a) :=
    congrArg (fun p => { s with eng := p }) (Pair.set_set ..)
  exact highWritten.runs.trans (twice ▸ lowWritten.runs)

/-- The record of a channel whose cursors CONFIGURE has reset. -/
def Record.opened (r : Record) : Record := { r with pop := r.cap - 1, cmp := 0, configured := true }

/-- The linked mode and the cursors are set beside each other. -/
theorem linkedMode_opened {p : Params} {c : Chan} {m : Int} {r u : Record} (h : linkedMode p c m r = some u) :
    linkedMode p c m r.opened = some u.opened := by
  unfold linkedMode at h ⊢
  split at h
  · cases h
    exact if_pos ‹_›
  · rw [if_neg ‹_›]
    split at h
    · rw [if_pos ‹_›]
      cases c <;> cases h <;> rfl
    · cases h

/-! The block walk's code. -/

/-- What is left to do of a block walk: the next block, if there is one. -/
def blockCode (c : Chan) (first : Bool) : List Block → List Item
  | [] => []
  | b :: bs => [.op (.populate (chanNum c) (memSide c b.src b.dst) b.size first bs.isEmpty), .cont (.cfgNext c bs)]

/-- The value of a block walk that comes to its end is OK. -/
def walkValue (v : Value) : List Block → Value
  | [] => .code .ok
  | _ :: _ => v

theorem cfgBlocks_poised (c : Chan) (first : Bool) (s : State) (is : List Item) (v : Value) (bs : List Block) :
    cfgBlocks c first (s.poised is v) bs = s.poised (blockCode c first bs ++ is) (walkValue v bs) := by
  cases bs with
  | nil => exact State.answer_poised ..
  | cons b bs => exact State.push_poised ..

/-- A selector that is one of the two: the record takes its linked mode, and the block walk begins (R365, R367). -/
theorem cfgLinked_poised {s : State} {c : Chan} {q : CfgReq} {r : Record}
    (linked : linkedMode s.cfg c q.linked (s.ch.get c) = some r) (is : List Item) (v : Value) :
    cfgLinked c q (s.poised is v) = (s.setRec c { r with cb := q.cb, ud := q.ud }).poised
      (blockCode c true q.blocks ++ is) (walkValue v q.blocks) := by
  rw [cfgLinked, State.poised_cfg, State.poised_ch, linked]
  exact cfgBlocks_poised c true (s.setRec c { r with cb := q.cb, ud := q.ud }) is v q.blocks

theorem blockCode_later {c : Chan} {first : Bool} {bs : List Block} {s : State} {rest : List Item}
    (later : s.irqs = [] ∨ rest ≠ []) : s.irqs = [] ∨ blockCode c first bs ++ rest ≠ [] :=
  later.imp id (List.append_ne_nil_of_right_ne_nil _)

/-! The frame of a whole procedure. -/

theorem State.poised_irqs_nil {s : State} (h : s.irqs = []) (is : List Item) (v : Value) :
    (s.poised is v).irqs = [] := by
  rw [State.poised, State.setRunning_irqs, h]
  rfl

/-- What a run of a ring's procedures leaves alone, the engine aside, once the masks are put back. -/
structure Returned (s t : State) : Prop where
  around : SameAround s t
  sb : t.sb = s.sb
  cblog : t.cblog = s.cblog
  thread : s.irqs = [] → t.irqs = []

theorem Returned.refl (s : State) : Returned s s := ⟨⟨rfl, rfl, rfl, rfl, rfl, rfl, rfl, rfl⟩, rfl, rfl, id⟩

theorem SameAround.trans {s t u : State} (h : SameAround s t) (k : SameAround t u) : SameAround s u :=
  ⟨k.cfg.trans h.cfg, k.rstBusy.trans h.rstBusy, k.gie.trans h.gie, k.lines.trans h.lines, k.ctl.trans h.ctl,
    k.outs.trans h.outs, k.logs.trans h.logs, k.interrupted.trans h.interrupted⟩

theorem Returned.trans {s t u : State} (h : Returned s t) (k : Returned t u) : Returned s u :=
  ⟨h.around.trans k.around, k.sb.trans h.sb, k.cblog.trans h.cblog, fun thread => k.thread (h.thread thread)⟩

theorem Returned.poised {s t : State} (h : Returned s t) (is : List Item) (v : Value) : Returned s (t.poised is v) :=
  h.trans ⟨⟨rfl, rfl, rfl, rfl, rfl, rfl, rfl, State.poised_interrupted ..⟩, rfl, rfl,
    fun thread => State.poised_irqs_nil thread is v⟩

theorem Returned.later {s t : State} (h : Returned s t) {rest : List Item} (later : s.irqs = [] ∨ rest ≠ []) :
    t.irqs = [] ∨ rest ≠ [] :=
  later.imp_left h.thread

/-! The run. -/

/-- What CONFIGURE of the request `q` leaves before its block walk, `r` being the record in the request's linked mode. -/
structure Opened (c : Chan) (q : CfgReq) (r : Record) (s t : State) : Prop where
  returned : Returned s t
  sound : PathSound t
  links : LinksClose s.cfg c t.hostWord
  synced : ∀ x, LinkByte s.cfg c x → t.mem.read x = t.hostByte x
  seen : ∀ x, ¬ LinkByte s.cfg c x → t.hostByte x = s.hostByte x
  mem : ∀ x, inRingOf s.cfg c x = false → t.mem.read x = s.mem.read x
  direct : DirectRings s.cfg → ∀ x, ¬ LinkByte s.cfg c x → t.mem.read x = s.mem.read x
  lines : ∀ l, inRingOf s.cfg c l.base = false → (l ∈ t.cache ↔ l ∈ s.cache)
  ch : t.ch = s.ch.set c { r.opened with cb := q.cb, ud := q.ud }
  eng : t.eng = s.eng.set c ((s.eng.get c).fetchAt (s.cfg.ring.get c))

/-- The link words are in memory as the host sees them. -/
theorem synced_of_published {p : Params} (valid : paramsValid p = true) {c : Chan} {a n : Nat} {s t : State}
    (pub : Published (linkStores p c) a n s t) {x : Nat} (hx : LinkByte p c x) : t.mem.read x = t.hostByte x := by
  obtain ⟨e, he, inside⟩ := (storedByte_linkStores valid c x).2 hx
  have aligned := linkStores_aligned valid c he
  obtain ⟨view, memory⟩ := pub.word e.addr e.val aligned (sbLookup_linkStores valid c he)
  exact read_eq_hostByte_of_word (memory.trans view.symm) (word_fits aligned) inside

/-- The code of CONFIGURE from its CURDESC writes on. -/
def openCode (c : Chan) (q : CfgReq) (ring : Addr) (key : Key) (rest : List Item) : List Item :=
  .op (wrInstr c .curdescMsb (hi32 ring)) :: .op (wrInstr c .curdescLsb (lo32 ring)) :: .cont (.cfgDone c q key) :: rest

section
variable {s : State} {c : Chan} {q : CfgReq} {rest : List Item} {r : Record}

theorem configure_enters (about : AboutTo s (.configure (chanNum c) q) rest) (ready : s.ctl = .ready) (inv : Inv s)
    (fresh : s.reclaiming c = false) (src : q.srcAdj ≠ .decrement) (dst : q.dstAdj ≠ .decrement)
    (dir : q.direction = (s.ch.get c).dir) :
    ∃ key ls g, HostRuns s ((s.withMasks ls g).poised (.cont (.cfgKey c q) :: rest) (.key key)) ∧
      Restores s key ls g := by
  have fresh' : (s.poised rest s.ret).reclaiming c = false := by
    rw [State.reclaiming, about.code] at fresh
    rw [State.reclaiming, State.code_poised]
    exact fresh
  obtain ⟨key, ls, g, called, entered, exit⟩ := HostStep.section_entered about rfl (inv.wired c)
    (execConfigure_accepts (s := s.poised rest s.ret) ready fresh' src dst dir)
  exact ⟨key, ls, g, called.runs.trans entered.runs, exit⟩

/-- The cursors are reset, and RELINK is next. -/
theorem HostRuns.cfgKey (valid : paramsValid s.cfg = true) (ring : (s.ch.get c).ring = s.cfg.ring.get c) (key : Key) :
    HostRuns (s.poised (.cont (.cfgKey c q) :: rest) (.key key))
      ((s.setRec c { s.ch.get c with pop := (s.ch.get c).cap - 1, cmp := 0 }).poised
        (.op (.relink (chanNum c)) :: openCode c q (s.cfg.ring.get c) key rest) (.key key)) := by
  refine .cont valid ?_ (.inr (List.cons_ne_nil _ _))
  rw [← ring, runPoint, Machine.cfgKey, State.ret_poised]
  exact State.push_poised (s.setRec c { s.ch.get c with pop := (s.ch.get c).cap - 1, cmp := 0 }) rest _ (.key key)

/-- CONFIGURE after RELINK, the channel halted and its cursors reset. -/
theorem HostRuns.opens {u : State} {key : Key} {ls : Pair Line} {g : Bool} {a : Addr} (exit : Restores s key ls g)
    (valid : paramsValid s.cfg = true) (cfg : u.cfg = s.cfg) (lines : u.lines = ls) (gie : u.gie = g)
    (idle : u.rstBusy = false) (halted : (u.eng.get c).phase = .halted) (aligned : alignedLow (lo32 a) = true)
    (reset : { u.ch.get c with configured := true } = (s.ch.get c).opened)
    (linked : linkedMode s.cfg c q.linked (s.ch.get c) = some r) (later : u.irqs = [] ∨ rest ≠ []) :
    ∃ v, HostRuns (u.poised (openCode c q a key rest) .unit)
      ((((u.setEng c ((u.eng.get c).fetchAt a)).withMasks s.lines s.gie).setRec c
        { r.opened with cb := q.cb, ud := q.ud }).poised (blockCode c true q.blocks ++ rest)
        (walkValue v q.blocks)) := by
  have valid' : paramsValid u.cfg = true := cfg ▸ valid
  let e := u.setEng c ((u.eng.get c).fetchAt a)
  have written : HostRuns (u.poised (openCode c q a key rest) .unit) (e.poised (.cont (.cfgDone c q key) :: rest) .unit) :=
    .writeCurdesc valid' idle halted aligned (List.cons_ne_nil _ _) .unit
  have done : HostRuns (e.poised (.cont (.cfgDone c q key) :: rest) .unit)
      ((e.setRec c (s.ch.get c).opened).poised (.op (.csExit key) :: .cont (.cfgLinked c q) :: rest) .unit) := by
    refine .cont (s := e) valid' ?_ (.inr (List.cons_ne_nil _ _))
    rw [runPoint, Machine.cfgDone, ← reset]
    exact State.push_poised (e.setRec c { u.ch.get c with configured := true }) rest _ .unit
  have left : HostRuns ((e.setRec c (s.ch.get c).opened).poised (.op (.csExit key) :: .cont (.cfgLinked c q) :: rest) .unit)
      (((e.setRec c (s.ch.get c).opened).withMasks s.lines s.gie).poised (.cont (.cfgLinked c q) :: rest) .unit) :=
    .op (i := .csExit key) valid' nofun nofun (exit _ _ _ cfg lines gie) (.inr (List.cons_ne_nil _ _))
  let x := (e.setRec c (s.ch.get c).opened).withMasks s.lines s.gie
  have mode : linkedMode x.cfg c q.linked (x.ch.get c) = some r.opened := by
    rw [show x.cfg = s.cfg from cfg, show x.ch.get c = (s.ch.get c).opened from Pair.get_set_self ..]
    exact linkedMode_opened linked
  have ready : HostRuns (x.poised (.cont (.cfgLinked c q) :: rest) .unit)
      ((x.setRec c { r.opened with cb := q.cb, ud := q.ud }).poised (blockCode c true q.blocks ++ rest)
        (walkValue .unit q.blocks)) :=
    .cont valid' (cfgLinked_poised mode rest .unit) (blockCode_later later)
  have twice : x.setRec c { r.opened with cb := q.cb, ud := q.ud } =
      (e.withMasks s.lines s.gie).setRec c { r.opened with cb := q.cb, ud := q.ud } :=
    congrArg (fun p => { e.withMasks s.lines s.gie with ch := p }) (Pair.set_set ..)
  exact ⟨.unit, written.trans (done.trans (left.trans (twice ▸ ready)))⟩

/-- A quiet run of CONFIGURE up to its block walk. -/
theorem configure_opens (about : AboutTo s (.configure (chanNum c) q) rest) (ready : s.ctl = .ready) (inv : Inv s)
    (fresh : s.reclaiming c = false) (src : q.srcAdj ≠ .decrement) (dst : q.dstAdj ≠ .decrement)
    (dir : q.direction = (s.ch.get c).dir) (linked : linkedMode s.cfg c q.linked (s.ch.get c) = some r)
    (empty : s.sb = []) (idle : s.rstBusy = false) (halted : (s.eng.get c).phase = .halted)
    (bus : ∀ i, i < s.cfg.cap.get c → busResp s.cfg (descAddr s.cfg c i) 4 true = .okay ∧
      busResp s.cfg (descAddr s.cfg c i + 4) 4 true = .okay) :
    ∃ t v, QuietRuns s (t.poised (blockCode c true q.blocks ++ rest) (walkValue v q.blocks)) ∧ Opened c q r s t := by
  have valid := about.valid
  obtain ⟨ring, -⟩ := recordLegal_iff.1 (inv.records c)
  obtain ⟨key, ls, g, enters, exit⟩ := configure_enters about ready inv fresh src dst dir
  have reset := enters.trans (HostRuns.cfgKey (s := s.withMasks ls g) valid ring key)
  let m := (s.withMasks ls g).setRec c { s.ch.get c with pop := (s.ch.get c).cap - 1, cmp := 0 }
  let p := m.poised (.op (.relink (chanNum c)) :: openCode c q (s.cfg.ring.get c) key rest) (.key key)
  have aboutRelink : AboutTo p (.relink (chanNum c)) (openCode c q (s.cfg.ring.get c) key rest) :=
    ⟨valid, State.code_poised .., .inr (List.cons_ne_nil _ _)⟩
  obtain ⟨u, relinked, pub⟩ := relink_runs aboutRelink ready (reset.quiet.inv inv) empty bus
  have only := pub.only
  have alike := only.alike
  have engU : u.eng = s.eng := alike.eng
  have aligned : alignedLow (lo32 (s.cfg.ring.get c)) = true := by
    have slot := isSlot_descAddr valid (c := c) (ring_bounds valid c).1
    have first : descAddr s.cfg c 0 = s.cfg.ring.get c := BitVec.add_zero _
    exact first ▸ slot.alignedLow
  have thread : s.irqs = [] → u.irqs = [] := fun h => only.irqs.trans (State.poised_irqs_nil h ..)
  have record : u.ch.get c = { s.ch.get c with pop := (s.ch.get c).cap - 1, cmp := 0 } := by
    rw [only.ch]
    exact Pair.get_set_self ..
  obtain ⟨v, opens⟩ := HostRuns.opens exit valid alike.cfg alike.lines alike.gie (alike.rstBusy.trans idle)
    (engU ▸ halted) aligned (congrArg (fun r : Record => { r with configured := true }) record) linked
    (about.later.imp_left thread)
  have outside {x : Nat} (h : inRingOf s.cfg c x = false) :
      ¬ InSpan (s.cfg.ring.get c).toNat (64 * s.cfg.cap.get c) x := mt inRingOf_iff.2 (by simp [h])
  have unlinked {x : Nat} (h : ¬ LinkByte s.cfg c x) := mt (storedByte_linkStores valid c x).1 h
  refine ⟨_, v, reset.quiet.trans (relinked.trans opens.quiet), ?returned,
    ⟨pub.sound.valid, pub.sound.memory, pub.sound.cache⟩, (linksClose_of_published valid c pub).2,
    fun x hx => synced_of_published valid pub hx, fun x hx => pub.seen x (unlinked hx), fun x hx => pub.mem x (outside hx),
    fun direct x hx => (pub.direct fun y hy => cacheable_of_direct direct (inRingOf_iff.2 hy)).2 x (unlinked hx),
    fun l hl => pub.lines l (.inl (outside hl)), ?ch, congrArg (fun e : Pair Eng => e.set c ((e.get c).fetchAt _)) engU⟩
  case returned =>
    exact ⟨⟨alike.cfg, alike.rstBusy, rfl, rfl, alike.ctl, alike.outs, alike.logs,
      (congrArg (List.drop 1) only.irqs).trans (State.poised_interrupted ..)⟩, alike.sb, congrArg Parts.cblog only.parts,
      thread⟩
  case ch => exact (congrArg (fun p => Pair.set p c _) only.ch).trans (Pair.set_set ..)

end

/-- A byte outside every descriptor's link is no byte of the ring's links. -/
theorem not_linkByte {p : Params} {c : Chan} {x : Nat} (h : ∀ i, i < p.cap.get c →
    x < (descAddr p c i).toNat ∨ (descAddr p c i).toNat + 8 ≤ x) : ¬ LinkByte p c x := by
  rintro ⟨i, hi, lower, upper⟩
  rcases h i hi with below | above <;> omega

/-- Settles O40: the run up to the block walk, which has nothing to do; in COHERENT mode the host's view and memory are
one. -/
theorem configureOpensASession : Obligations.ConfigureOpensASession := by
  intro s c q rest r about ready inv fresh src dst dir noBlocks linked coherent empty idle halted bus
  obtain ⟨t, v, ⟨n, run⟩, opened⟩ := configure_opens about ready inv fresh src dst dir linked empty idle halted bus
  rw [noBlocks] at run
  obtain ⟨returned, sound, links, -, -, -, direct, -, ch, eng⟩ := opened
  have cfg : t.cfg = s.cfg := returned.around.cfg
  obtain ⟨around, sb, cblog, -⟩ := returned.poised rest (.code .ok)
  obtain ⟨-, cap, -⟩ := recordLegal_iff.1 (recordLegal_linkedMode (inv.records c) linked)
  have cache : t.cache = s.cache := by
    rw [sound.no_cache (cfg ▸ coherent), (inv.pathSound about.valid).no_cache coherent]
  have word : t.hostWord = t.mem.readWord := funext (State.hostWord_coherent (cfg ▸ coherent))
  rw [word] at links
  refine ⟨n, _, run, State.code_poised .., State.ret_poised .., sb.trans empty, ?_, eng, links,
    fun x hx => direct (.inl coherent) x (not_linkByte hx), around.lines, around.gie, cblog, around.logs, around.cfg,
    around.rstBusy, around.ctl, around.outs, cache, around.interrupted⟩
  rw [← cap]
  exact ch

end Sys2Proof.Machine
end

section
/-! POPULATE in a block walk: which bytes of a slot stay in memory as they are, and the block that does not go (43_ring.md
R301, R305; 20_memory.md R107, R125). -/

namespace Sys2Proof.Machine

/-! Bytes that memory holds as the host sees them. -/

/-- A flush leaves a byte of memory as it is, or puts there what the host sees. -/
theorem State.flush_mem_or {s : State} (sound : PathSound s) {a n : Nat} (whole : WholeLines s.cfg a n) (x : Nat) :
    (s.flush a n).mem.read x = s.mem.read x ∨ (s.flush a n).mem.read x = s.hostByte x := by
  by_cases inside : InSpan a n x
  · by_cases dirty : s.LineDirty x
    · exact .inr (State.flush_publishes sound whole inside dirty)
    · unfold State.LineDirty at dirty
      push Not at dirty
      obtain ⟨cached, l, hl, base, clean⟩ := dirty
      have nc := cacheable_noncoherent cached
      refine .inl ?_
      rw [State.flush_noncoherent nc]
      refine read_writeBack_outside sound.valid (fun k hk => sound.legal hk) (fun k hk _ dirty => ?_) sound.memory
      by_contra inLine
      have same : lineBase s.cfg x = k.base := (sound.line_of hk).1 (by omega)
      rw [eq_of_base_eq sound.rise hk hl (same.symm.trans base.symm)] at dirty
      exact clean dirty
  · exact .inl (State.flush_mem sound whole (.inl inside))

/-- A byte that memory holds as the host sees it, and that is not stored to, is not changed by a publication. -/
theorem read_published_synced {s : State} (sound : PathSound s) {a n : Nat} (whole : WholeLines s.cfg a n)
    {es : List SbEntry} (aligned : ∀ e ∈ es, e.addr.toNat % 4 = 0) {x : Nat} (unstored : ¬ StoredByte es x)
    (synced : s.mem.read x = s.hostByte x) : ((s.drainAll es).flush a n).mem.read x = s.hostByte x := by
  obtain ⟨drained, -⟩ := drained_drainAll sound (at_ := fun x => StoredByte es x) aligned fun _ h => h
  have whole' : WholeLines (s.drainAll es).cfg a n := drained.only.cfg ▸ whole
  rcases State.flush_mem_or drained.sound whole' x with kept | seen
  · exact kept.trans ((drained.mem x unstored).trans synced)
  · exact seen.trans (State.hostByte_drainAll sound aligned unstored)

/-! A slot's stores published in a state that loads have left. -/

/-- On RX the buffer's lines dropped, then the stores `es` drained and the slot `d` flushed. -/
def State.slotFlushed (t : State) (c : Chan) (d buf : Addr) (n : Nat) (es : List SbEntry) : State :=
  ((t.dropRx c buf n).drainAll es).flush d.toNat 64

section
variable {s t : State} {c : Chan} {d buf : Addr} {n : Nat} {ws : List (Nat × Word)} (slot : IsSlot s.cfg c d)
  (loaded : Loaded d s t) (offsets : WordOffsets (ws.map Prod.fst))

theorem pathOnly_slotFlushed (t : State) (c : Chan) (d buf : Addr) (n : Nat) (es : List SbEntry) :
    PathOnly t (t.slotFlushed c d buf n es) :=
  (pathOnly_dropRx t c buf n).trans ((pathOnly_drainAll _ es).trans (pathOnly_flush ..))

include slot loaded offsets

theorem slotUpdated_slotFlushed :
    SlotUpdated c (slotStores d ws) d buf n s (t.slotFlushed c d buf n (slotStores d ws)) := by
  have cfg : (t.dropRx c buf n).cfg = s.cfg := (pathOnly_dropRx t c buf n).cfg.trans loaded.only.cfg
  exact slotUpdated slot loaded ⟨rfl, rfl, rfl⟩ (published (loaded.sound.dropRx c buf n) (cfg ▸ slot.whole)
    (fun e he => slotStores_aligned slot offsets he) fun e he => slotStores_inside slot offsets he)

theorem slotFlushed_synced {x : Nat} (unstored : ¬ StoredByte (slotStores d ws) x)
    (kept : ¬ (c = .rx ∧ Invalidated s.cfg buf n x)) (synced : s.mem.read x = s.hostByte x) :
    (t.slotFlushed c d buf n (slotStores d ws)).mem.read x = s.hostByte x := by
  have cfg : (t.dropRx c buf n).cfg = s.cfg := (pathOnly_dropRx t c buf n).cfg.trans loaded.only.cfg
  have view : (t.dropRx c buf n).hostByte x = s.hostByte x :=
    ((State.hostByte_dropRx loaded.sound c buf n x).2 (by rwa [loaded.only.cfg])).trans (loaded.seen x)
  rw [← view]
  refine read_published_synced (loaded.sound.dropRx c buf n) (cfg ▸ slot.whole)
    (fun e he => slotStores_aligned slot offsets he) unstored ?_
  rw [State.dropRx_mem, loaded.mem, view, synced]

end

/-! What is beside the host's memory path. -/

theorem PathOnly.returned {s t : State} (h : PathOnly s t) : Returned s t := by
  obtain ⟨_, _, _, _, rfl⟩ := h
  exact ⟨⟨rfl, rfl, rfl, rfl, rfl, rfl, rfl, rfl⟩, rfl, rfl, id⟩

/-- The masks put back after loads. -/
theorem Loaded.unmasked {d : Addr} {s t : State} {ls : Pair Line} {g : Bool} (h : Loaded d (s.withMasks ls g) t) :
    Loaded d s (t.withMasks s.lines s.gie) := by
  obtain ⟨⟨_, _, _, _, rfl⟩, ⟨valid, memory, cache⟩, mem, seen, lines⟩ := h
  exact ⟨⟨_, _, _, _, rfl⟩, ⟨valid, memory, cache⟩, mem, seen, lines⟩

/-- What POPULATE of a block that goes leaves, `ctl` being the slot's CONTROL and `ni` its number. -/
structure BlockPopulated (c : Chan) (d buf : Addr) (len app0 ctl : Word) (ni : Nat) (s t : State) : Prop where
  returned : Returned s t
  slot : SlotUpdated c (slotStores d (blockWords buf app0 ctl)) d buf len.toNat s t
  synced : ∀ x, ¬ StoredByte (slotStores d (blockWords buf app0 ctl)) x →
    ¬ (c = .rx ∧ Invalidated s.cfg buf len.toNat x) → s.mem.read x = s.hostByte x → t.mem.read x = s.hostByte x
  ch : t.ch = s.ch.set c { s.ch.get c with pop := ni }
  eng : t.eng = s.eng

/-- The running context is beside what a block leaves. -/
theorem BlockPopulated.of_poised {c : Chan} {d buf : Addr} {len app0 ctl : Word} {ni : Nat} {s t : State} {is : List Item}
    {v : Value} (h : BlockPopulated c d buf len app0 ctl ni (s.poised is v) t) :
    BlockPopulated c d buf len app0 ctl ni s t := by
  obtain ⟨returned, ⟨cfg, sound, word, mem, direct, seen, lines, clean⟩, synced, ch, eng⟩ := h
  exact ⟨((Returned.refl s).poised is v).trans returned, ⟨cfg, sound, word, mem, direct, seen, lines, clean⟩,
    synced, ch, eng⟩

theorem blockPopulated_slotFlushed {s t : State} {c : Chan} {d buf : Addr} {len app0 ctl : Word} {ls : Pair Line} {g : Bool}
    (slot : IsSlot s.cfg c d) (loaded : Loaded d (s.withMasks ls g) t) (ni : Nat) :
    BlockPopulated c d buf len app0 ctl ni s
      (((t.slotFlushed c d buf len.toNat (slotStores d (blockWords buf app0 ctl))).setRec c
        { s.ch.get c with pop := ni }).withMasks s.lines s.gie) := by
  have offsets := wordOffsets_blockWords buf app0 ctl
  have only := loaded.only.trans (pathOnly_slotFlushed t c d buf len.toNat (slotStores d (blockWords buf app0 ctl)))
  have updated := (slotUpdated_slotFlushed (s := s.withMasks ls g) (buf := buf) (n := len.toNat) slot loaded
    offsets).of_withMasks
  have synced {x : Nat} := slotFlushed_synced (s := s.withMasks ls g) (buf := buf) (n := len.toNat) slot loaded offsets
    (x := x)
  generalize t.slotFlushed c d buf len.toNat (slotStores d (blockWords buf app0 ctl)) = u at only updated synced ⊢
  have alike := only.alike
  exact ⟨⟨⟨alike.cfg, alike.rstBusy, rfl, rfl, alike.ctl, alike.outs, alike.logs, congrArg (List.drop 1) alike.irqs⟩,
    alike.sb, congrArg Parts.cblog only.parts, alike.irqs.trans⟩, updated.samePath ⟨rfl, rfl, rfl⟩, fun x => synced,
    congrArg (fun p : Pair Record => p.set c { s.ch.get c with pop := ni }) only.ch, alike.eng⟩

/-! The two runs. -/

section
variable {s : State} {c : Chan} {buf : Addr} {len : Word} {first last : Bool} {rest : List Item}
  (about : AboutTo s (.populate (chanNum c) buf len first last) rest) (ready : s.ctl = .ready)
  (configured : (s.ch.get c).configured = true) (inv : Inv s) {ni : Nat} {d : Addr}
  (hni : ni = ((s.ch.get c).pop + 1) % s.cfg.cap.get c) (hd : d = descAddr s.cfg c ni)
  (bus : ∀ k w, k < 16 → busResp s.cfg (d + BitVec.ofNat 64 (4 * k)) 4 w = .okay)
include about ready configured inv hni hd bus

/-- A run of POPULATE comes to its checks from a state in which it has loaded CONTROL and STATUS of its slot. -/
theorem populate_loads : ∃ key ls g t,
    HostRuns s (t.poised (.cont (.popSts ⟨c, buf, len, first, last⟩ key ni (s.loadWord (d + 0x18))) :: rest)
      (.word (s.loadWord (d + 0x1C)))) ∧
    Loaded d (s.withMasks ls g) t ∧
    ∀ u is v, Alike (s.withMasks ls g) u → (u.irqs = [] ∨ is ≠ []) →
      HostRuns (u.poised (.op (.csExit key) :: is) v) ((u.withMasks s.lines s.gie).poised is .unit) := by
  have slot : IsSlot s.cfg c d := by
    rw [hd, hni]
    exact isSlot_mod about.valid c _
  obtain ⟨key, ls, g, checks, exit⟩ := populate_checks about ready configured inv hni hd (bus 6 false (by decide))
    (bus 7 false (by decide))
  have sound := inv.pathSound about.valid
  have masked : PathSound (s.withMasks ls g) := ⟨sound.valid, sound.memory, sound.cache⟩
  have control : Loaded d (s.withMasks ls g) ((s.withMasks ls g).afterLoad (d + 0x18)) :=
    loaded_afterLoad masked slot (k := 0x18) (by decide) (by decide)
  have status : Loaded d ((s.withMasks ls g).afterLoad (d + 0x18))
      (((s.withMasks ls g).afterLoad (d + 0x18)).afterLoad (d + 0x1C)) :=
    loaded_afterLoad control.sound (c := c) (control.only.cfg ▸ slot) (k := 0x1C) (by decide) (by decide)
  exact ⟨key, ls, g, _, checks, control.trans status, exit⟩

/-- A block that goes: a quiet run of POPULATE on a free slot. -/
theorem populate_goes (empty : s.sb = []) (free : SlotFree s d) (fits : BlockFits s.cfg c buf len) :
    ∃ t, QuietRuns s (t.poised rest (.code .ok)) ∧
      BlockPopulated c d buf len (s.ch.get c).app0 (controlWord len first last) ni s t := by
  have slot : IsSlot s.cfg c d := by
    rw [hd, hni]
    exact isSlot_mod about.valid c _
  obtain ⟨key, ls, g, t, checks, loaded, exit⟩ := populate_loads (first := first) (last := last) about ready configured
    inv hni hd bus
  obtain ⟨control, status⟩ := free
  rw [control, status] at checks
  have cfg : t.cfg = s.cfg := loaded.only.cfg
  have sb : t.sb = [] := loaded.only.sb.trans empty
  have accept : HostRuns (t.poised (.cont (.popSts ⟨c, buf, len, first, last⟩ key ni 0) :: rest) (.word 0))
      (t.poised (popStores t.cfg ⟨c, buf, len, first, last⟩ key ni ++ rest) (.word 0)) := by
    refine .cont (cfg ▸ about.valid) ?_ (.inr (by cases c <;> simp [popStores]))
    have check : popCheck t.cfg ⟨c, buf, len, first, last⟩ 0 0 = .ok := popCheck_fits (by rwa [cfg])
    simp only [runPoint, popSts, State.ret_poised, Value.asWord, State.poised_cfg, check, State.push_poised]
  have stores := HostRuns.popStores (buf := buf) (cfg ▸ about.valid) sb (cfg ▸ slot) (cfg ▸ hd) len first last key rest
    (.word 0)
  rw [show (t.ch.get c).app0 = (s.ch.get c).app0 by rw [loaded.only.ch]; rfl] at stores
  have drop := pathOnly_dropRx t c buf len.toNat
  have publish := QuietRuns.publish (s := t.dropRx c buf len.toNat) (a := d) (n := 64) (v := .unit)
    (is := .cont (.popSet c ni) :: .op (.csExit key) :: .cont (.ret (.code .ok)) :: rest)
    (by rw [drop.cfg, cfg]; exact about.valid) (drop.sb.trans sb)
    (fun e he => by
      rw [drop.cfg, cfg]
      exact slotStores_accepted slot (wordOffsets_blockWords buf (s.ch.get c).app0 (controlWord len first last)) bus he)
    (.inr (by simp))
  have ends := HostRuns.popEnds about.valid exit (c := c) (loaded.only.trans (pathOnly_slotFlushed t c d buf len.toNat
    (slotStores d (blockWords buf (s.ch.get c).app0 (controlWord len first last))))) ni about.later
  exact ⟨_, (checks.trans (accept.trans stores)).quiet.trans (publish.trans ends.quiet),
    blockPopulated_slotFlushed slot loaded ni⟩

/-- A block that does not go: POPULATE returns its code, having loaded CONTROL and STATUS of the slot and no more. -/
theorem populate_refused {r : Code} (refused : popCheck s.cfg ⟨c, buf, len, first, last⟩ (s.loadWord (d + 0x18))
      (s.loadWord (d + 0x1C)) = r) (notOk : r ≠ .ok) :
    ∃ t, HostRuns s (t.poised rest (.code r)) ∧ Loaded d s t := by
  obtain ⟨key, ls, g, t, checks, loaded, exit⟩ := populate_loads (first := first) (last := last) about ready configured
    inv hni hd bus
  have cfg : t.cfg = s.cfg := loaded.only.cfg
  have irqs : t.irqs = s.irqs := loaded.only.irqs
  generalize s.loadWord (d + 0x18) = control at checks refused
  generalize s.loadWord (d + 0x1C) = status at checks refused
  have leave : HostRuns (t.poised (.cont (.popSts ⟨c, buf, len, first, last⟩ key ni control) :: rest) (.word status))
      (t.poised (.op (.csExit key) :: .cont (.ret (.code r)) :: rest) (.word status)) := by
    refine .cont (cfg ▸ about.valid) ?_ (.inr (by simp))
    have check : popCheck (t.poised rest (.word status)).cfg ⟨c, buf, len, first, last⟩ control
      (Value.word status).asWord = r := cfg ▸ refused
    simp only [runPoint, popSts, State.ret_poised, check]
    cases r with
    | ok => exact absurd rfl notOk
    | _ => exact State.push_poised ..
  have out := exit t (.cont (.ret (.code r)) :: rest) (.word status) loaded.only.alike (.inr (by simp))
  have return_ : HostRuns ((t.withMasks s.lines s.gie).poised (.cont (.ret (.code r)) :: rest) .unit)
      ((t.withMasks s.lines s.gie).poised rest (.code r)) :=
    .ret (s := t.withMasks s.lines s.gie) (cfg ▸ about.valid) (about.later.imp_left irqs.trans)
  exact ⟨_, checks.trans (leave.trans (out.trans return_)), loaded.unmasked⟩

end

end Sys2Proof.Machine
end

section
/-! A block walk over blocks that go: what it leaves after each of them (46_configure.md R365; 43_ring.md R301). -/

namespace Sys2Proof.Machine

/-! Link bytes and populated bytes. -/

/-- The words as `word'` and `word` read them in a slot are the same. -/
def SameSlot (word word' : Addr → Word) (d : Addr) : Prop :=
  ∀ k, k + 4 ≤ 64 → word' (d + BitVec.ofNat 64 k) = word (d + BitVec.ofNat 64 k)

theorem SameSlot.holdsBlock {word word' : Addr → Word} {d buf : Addr} {app0 ctl : Word} (same : SameSlot word word' d)
    (h : HoldsBlock word d buf app0 ctl) : HoldsBlock word' d buf app0 ctl := by
  obtain ⟨buffer, app, control⟩ := h
  exact ⟨(congrArg₂ (· ++ ·) (same 0x0C (by decide)) (same 0x08 (by decide))).trans buffer,
    (same 0x20 (by decide)).trans app, (same 0x18 (by decide)).trans control⟩

section
variable {p : Params} (valid : paramsValid p = true) {c : Chan} {x : Nat}
include valid

theorem linkByte_inRing (h : LinkByte p c x) : inRingOf p c x = true := by
  obtain ⟨i, hi, inside⟩ := h
  refine (isSlot_descAddr valid hi).inRing x ?_
  unfold InSpan at *
  omega

theorem linkByte_unpopulated (h : LinkByte p c x) {j : Nat} (hj : j < p.cap.get c) :
    ¬ PopulatedByte (descAddr p c j) x := by
  obtain ⟨i, hi, inside⟩ := h
  unfold PopulatedByte InSpan at *
  rw [descAddr_toNat valid hi] at inside
  rw [descAddr_toNat valid hj]
  omega

end

theorem populatedByte_inSlot {d : Addr} {x : Nat} (h : PopulatedByte d x) : InSpan d.toNat 64 x := by
  unfold PopulatedByte InSpan at *
  omega

/-! What a walk meets, and what it leaves. -/

/-- A walk in `s` over the first `k` of a request's blocks, which all go: `d j` is slot `j`, `buf j` and `len j` the block
for it. -/
structure Walk (s : State) (c : Chan) (k : Nat) (d buf : Nat → Addr) (len : Nat → Word) : Prop where
  sound : PathSound s
  ready : s.ctl = .ready
  configured : (s.ch.get c).configured = true
  empty : s.sb = []
  pop : (s.ch.get c).pop = s.cfg.cap.get c - 1
  small : k ≤ s.cfg.cap.get c
  place : ∀ j, d j = descAddr s.cfg c j
  free : ∀ j, j < k → SlotFree s (d j)
  fits : ∀ j, j < k → BlockFits s.cfg c (buf j) (len j)
  bus : ∀ j, j < s.cfg.cap.get c → ∀ i w, i < 16 → busResp s.cfg (d j + BitVec.ofNat 64 (4 * i)) 4 w = .okay
  apart : ∀ j, j < k → c = .rx → s.cfg.cacheMode = .noncoherent → ∀ i, i < (len j).toNat →
    inRingOf s.cfg c (((buf j).toNat + i) % 2 ^ 64) = false

/-- What a walk over `n` blocks has done to `s` after `i` of them. -/
structure Walked (c : Chan) (n : Nat) (d buf : Nat → Addr) (len : Nat → Word) (s : State) (i : Nat)
    (t : State) : Prop where
  returned : Returned s t
  sound : PathSound t
  holds : ∀ j, j < i → ∀ word, word = t.mem.readWord ∨ word = t.hostWord →
    HoldsBlock word (d j) (buf j) (s.ch.get c).app0 (controlWord (len j) (j == 0) (j + 1 == n))
  synced : ∀ x, inRingOf s.cfg c x = true → (∀ j, j < i → ¬ PopulatedByte (d j) x) →
    s.mem.read x = s.hostByte x → t.mem.read x = s.hostByte x
  mem : ∀ x, (∀ j, j < i → ¬ InSpan (d j).toNat 64 x) → t.mem.read x = s.mem.read x
  direct : DirectRings s.cfg → ∀ x, (∀ j, j < i → ¬ PopulatedByte (d j) x) → t.mem.read x = s.mem.read x
  seen : ∀ x, (∀ j, j < i → ¬ PopulatedByte (d j) x) →
    (c = .rx → (∃ j, j < i ∧ Invalidated s.cfg (buf j) (len j).toNat x) → t.hostByte x = s.mem.read x) ∧
    (¬ (c = .rx ∧ ∃ j, j < i ∧ Invalidated s.cfg (buf j) (len j).toNat x) → t.hostByte x = s.hostByte x)
  lines : ∀ l, inRingOf s.cfg c l.base = false → (l ∈ t.cache ↔ l ∈ s.cache ∧
    ¬ (c = .rx ∧ uncachedRing s.cfg l.base = false ∧ ∃ j, j < i ∧ LineMeets s.cfg l (buf j).toNat (len j).toNat))
  ch : t.ch = s.ch.set c { s.ch.get c with pop := (s.cfg.cap.get c - 1 + i) % s.cfg.cap.get c }
  eng : t.eng = s.eng

section
variable {s : State} {c : Chan} {k n : Nat} {d buf : Nat → Addr} {len : Nat → Word} (walk : Walk s c k d buf len)
include walk

theorem Walk.slot {j : Nat} (hj : j < s.cfg.cap.get c) : IsSlot s.cfg c (d j) := by
  rw [walk.place]
  exact isSlot_descAddr walk.sound.valid hj

theorem Walk.slots_apart {i j : Nat} (hi : i < s.cfg.cap.get c) (hj : j < s.cfg.cap.get c) (ne : i ≠ j) {x : Nat}
    (hx : InSpan (d i).toNat 64 x) : ¬ InSpan (d j).toNat 64 x := by
  rw [walk.place] at hx ⊢
  exact descAddr_apart walk.sound.valid hi hj ne hx

/-- Before the first block nothing is done. -/
theorem Walk.start : Walked c n d buf len s 0 s := by
  refine ⟨.refl s, walk.sound, nofun, fun _ _ _ same => same, fun _ _ => rfl, fun _ _ _ => rfl,
    fun x _ => ⟨?_, fun _ => rfl⟩, fun l _ => ?_, ?_, rfl⟩
  · rintro - ⟨j, hj, -⟩
    cases hj
  · simp
  · have some_slot := (ring_bounds walk.sound.valid c).1
    rw [Nat.add_zero, Nat.mod_eq_of_lt (by omega), ← walk.pop, Pair.set_get]

section
variable {i : Nat} {t : State} (walked : Walked c n d buf len s i t)
include walked

omit walk in
theorem Walked.record : t.ch.get c = { s.ch.get c with pop := (s.cfg.cap.get c - 1 + i) % s.cfg.cap.get c } := by
  rw [walked.ch, Pair.get_set_self]

/-- The host sees the ring as before the walk, but for the words populated. -/
theorem Walk.seen_in_ring (hi : i ≤ k) {x : Nat} (hx : inRingOf s.cfg c x = true)
    (unpopulated : ∀ j, j < i → ¬ PopulatedByte (d j) x) : t.hostByte x = s.hostByte x := by
  obtain ⟨dropped, kept⟩ := walked.seen x unpopulated
  by_cases drop : c = .rx ∧ ∃ j, j < i ∧ Invalidated s.cfg (buf j) (len j).toNat x
  · obtain ⟨rx, j, hj, inv⟩ := drop
    cases mode : s.cfg.cacheMode with
    | coherent => rw [dropped rx ⟨j, hj, inv⟩, State.hostByte_uncacheable (cacheable_of_coherent mode x)]
    | noncoherent =>
      exact absurd inv (not_invalidated_in_ring walk.sound.valid mode (walk.apart j (by omega) rx mode) hx)
  · exact kept drop

/-- The host loads the words of a slot ahead as before the walk. -/
theorem Walk.load_ahead (hi : i ≤ k) {j : Nat} (later : i ≤ j) (hj : j < s.cfg.cap.get c) :
    SameSlot s.loadWord t.loadWord (d j) := by
  have small := walk.small
  intro o ho
  rw [loadWord_of_empty (walked.returned.sb.trans walk.empty), loadWord_of_empty walk.empty]
  refine hostWord_congr fun b hb => ?_
  have inside := (walk.slot hj).wordByte ho hb
  exact walk.seen_in_ring walked hi ((walk.slot hj).inRing _ inside) fun i' hi' populated =>
    walk.slots_apart (by omega) hj (by omega) (populatedByte_inSlot populated) inside

/-- The links of a closed ring still close it. -/
theorem Walk.links (hi : i ≤ k) (links : LinksClose s.cfg c s.hostWord)
    (synced : ∀ x, LinkByte s.cfg c x → s.mem.read x = s.hostByte x) :
    LinksClose s.cfg c t.mem.readWord ∧ LinksClose s.cfg c t.hostWord := by
  have small := walk.small
  have valid := walk.sound.valid
  have unpopulated {x : Nat} (hx : LinkByte s.cfg c x) (j : Nat) (hj : j < i) : ¬ PopulatedByte (d j) x :=
    walk.place j ▸ linkByte_unpopulated valid hx (by omega)
  have view {x : Nat} (hx : LinkByte s.cfg c x) : t.hostByte x = s.hostByte x :=
    walk.seen_in_ring walked hi (linkByte_inRing valid hx) (unpopulated hx)
  have memory {x : Nat} (hx : LinkByte s.cfg c x) : t.mem.read x = s.hostByte x :=
    walked.synced x (linkByte_inRing valid hx) (unpopulated hx) (synced x hx)
  have byte {m o b : Nat} (hm : m < s.cfg.cap.get c) (ho : o ≤ 4) (hb : b < 4) :
      LinkByte s.cfg c (((descAddr s.cfg c m + BitVec.ofNat 64 o).toNat + b) % 2 ^ 64) := by
    have slot := isSlot_descAddr valid hm
    have fits := slot.whole.fits
    rw [slot.toNat_add (by omega), Nat.mod_eq_of_lt (by omega)]
    exact ⟨m, hm, by omega, by omega⟩
  have word {m o : Nat} (hm : m < s.cfg.cap.get c) (ho : o ≤ 4) :
      t.hostWord (descAddr s.cfg c m + BitVec.ofNat 64 o) = s.hostWord (descAddr s.cfg c m + BitVec.ofNat 64 o) ∧
      t.mem.readWord (descAddr s.cfg c m + BitVec.ofNat 64 o) = s.hostWord (descAddr s.cfg c m + BitVec.ofNat 64 o) := by
    have same := hostWord_congr (s := s) (t := t) (a := descAddr s.cfg c m + BitVec.ofNat 64 o)
      fun b hb => view (byte hm ho hb)
    refine ⟨same, (readWord_eq_hostWord fun b hb => ?_).trans same⟩
    exact (memory (byte hm ho hb)).trans (view (byte hm ho hb)).symm
  have low (m : Nat) : descAddr s.cfg c m = descAddr s.cfg c m + BitVec.ofNat 64 0 := (BitVec.add_zero _).symm
  refine ⟨fun m hm => ?_, fun m hm => ?_⟩
  all_goals
    refine Eq.trans ?_ (links m hm)
    rw [low m]
  · exact congrArg₂ (· ++ ·) (by simpa using (word hm (o := 4) (by decide)).2) (word hm (o := 0) (by decide)).2
  · exact congrArg₂ (· ++ ·) (by simpa using (word hm (o := 4) (by decide)).1) (word hm (o := 0) (by decide)).1

end

end

end Sys2Proof.Machine
end

section
/-! One block more of a walk, and a walk's run (46_configure.md R365). -/

namespace Sys2Proof.Machine

section
variable {s : State} {c : Chan} {k n : Nat} {d buf : Nat → Addr} {len : Nat → Word} (walk : Walk s c k d buf len)
include walk

theorem Walk.unstored {i : Nat} (hi : i < k) {app0 ctl : Word} {x : Nat} (unpopulated : ¬ PopulatedByte (d i) x) :
    ¬ StoredByte (slotStores (d i) (blockWords (buf i) app0 ctl)) x := by
  have small := walk.small
  exact mt (storedByte_blockWords (walk.slot (by omega)) x).1 unpopulated

/-- A byte of a buffer whose lines the block drops is in memory as before the walk. -/
theorem Walk.mem_dropped {i : Nat} {t : State} (walked : Walked c n d buf len s i t) (hi : i < k) (rx : c = .rx)
    {x : Nat} (inv : Invalidated s.cfg (buf i) (len i).toNat x) (unpopulated : ∀ j, j < i → ¬ PopulatedByte (d j) x) :
    t.mem.read x = s.mem.read x := by
  have small := walk.small
  cases mode : s.cfg.cacheMode with
  | coherent => exact walked.direct (.inl mode) x unpopulated
  | noncoherent =>
    refine walked.mem x fun j hj inside => ?_
    exact not_invalidated_in_ring walk.sound.valid mode (walk.apart i hi rx mode)
      ((walk.slot (by omega)).inRing x inside) inv

section
variable {i : Nat} {t u : State} (walked : Walked c n d buf len s i t) (hi : i < k)
  (one : BlockPopulated c (d i) (buf i) (len i) (s.ch.get c).app0 (controlWord (len i) (i == 0) (i + 1 == n)) i t u)
include walked hi one

theorem Walk.step_seen {x : Nat} (unpopulated : ∀ j, j < i + 1 → ¬ PopulatedByte (d j) x) :
    (c = .rx → (∃ j, j < i + 1 ∧ Invalidated s.cfg (buf j) (len j).toNat x) → u.hostByte x = s.mem.read x) ∧
    (¬ (c = .rx ∧ ∃ j, j < i + 1 ∧ Invalidated s.cfg (buf j) (len j).toNat x) → u.hostByte x = s.hostByte x) := by
  have before (j : Nat) (hj : j < i) := unpopulated j (by omega)
  obtain ⟨dropped, kept⟩ := one.slot.seen x (walk.unstored hi (unpopulated i (by omega)))
  rw [walked.returned.around.cfg] at dropped kept
  obtain ⟨droppedBefore, keptBefore⟩ := walked.seen x before
  refine ⟨fun rx found => ?_, fun notFound => ?_⟩
  · by_cases now : Invalidated s.cfg (buf i) (len i).toNat x
    · exact (dropped rx now).trans (walk.mem_dropped walked hi rx now before)
    · obtain ⟨j, hj, inv⟩ := found
      have earlier : j ≠ i := fun same => now (same ▸ inv)
      exact (kept fun h => now h.2).trans (droppedBefore rx ⟨j, by omega, inv⟩)
  · refine (kept fun ⟨rx, inv⟩ => notFound ⟨rx, i, by omega, inv⟩).trans
      (keptBefore fun ⟨rx, j, hj, inv⟩ => notFound ⟨rx, j, by omega, inv⟩)

theorem Walk.step_lines {l : CacheLine} (outside : inRingOf s.cfg c l.base = false) :
    l ∈ u.cache ↔ l ∈ s.cache ∧ ¬ (c = .rx ∧ uncachedRing s.cfg l.base = false ∧
      ∃ j, j < i + 1 ∧ LineMeets s.cfg l (buf j).toNat (len j).toNat) := by
  have small := walk.small
  have notHere : ¬ InSpan (d i).toNat 64 l.base := mt ((walk.slot (by omega)).inRing _) (by simp [outside])
  have now := one.slot.lines l (.inl notHere)
  rw [walked.returned.around.cfg] at now
  rw [now, walked.lines l outside, Nat.exists_lt_succ_right, and_assoc, ← not_or,
    and_comm (a := LineMeets s.cfg l (buf i).toNat (len i).toNat), ← and_or_left, ← and_or_left]

/-- The block leaves the other slots' words. -/
theorem Walk.step_other {j : Nat} (hj : j < s.cfg.cap.get c) (other : j ≠ i) :
    SameSlot t.hostWord u.hostWord (d j) ∧ SameSlot t.mem.readWord u.mem.readWord (d j) := by
  have small := walk.small
  have cfg := walked.returned.around.cfg
  have outside {x : Nat} (hx : InSpan (d j).toNat 64 x) := walk.slots_apart hj (by omega) other hx
  refine ⟨fun o ho => hostWord_congr fun b hb => ?_, fun o ho => readWord_congr fun b hb => ?_⟩
  · have inside := (walk.slot hj).wordByte ho hb
    exact one.slot.seen_in_ring walked.sound (by rw [cfg]; exact walk.apart i hi)
      (by rw [cfg]; exact (walk.slot hj).inRing _ inside)
      (walk.unstored hi (mt populatedByte_inSlot (outside inside)))
  · exact one.slot.mem _ (outside ((walk.slot hj).wordByte ho hb))

theorem Walk.step_holds {j : Nat} (hj : j < i + 1) {word : Addr → Word}
    (source : word = u.mem.readWord ∨ word = u.hostWord) :
    HoldsBlock word (d j) (buf j) (s.ch.get c).app0 (controlWord (len j) (j == 0) (j + 1 == n)) := by
  have small := walk.small
  by_cases here : j = i
  · subst here
    obtain ⟨lo, hi', app0, ctl⟩ := one.slot.block (walked.returned.around.cfg ▸ walk.slot (by omega)) source
    exact ⟨by rw [lo, hi', hi32_append_lo32], app0, ctl⟩
  · obtain ⟨view, memory⟩ := walk.step_other walked hi one (j := j) (by omega) here
    rcases source with rfl | rfl
    · exact memory.holdsBlock (walked.holds j (by omega) _ (.inl rfl))
    · exact view.holdsBlock (walked.holds j (by omega) _ (.inr rfl))

theorem Walk.step_synced {x : Nat} (hx : inRingOf s.cfg c x = true)
    (unpopulated : ∀ j, j < i + 1 → ¬ PopulatedByte (d j) x) (synced : s.mem.read x = s.hostByte x) :
    u.mem.read x = s.hostByte x := by
  have small := walk.small
  have cfg := walked.returned.around.cfg
  have before (j : Nat) (hj : j < i) := unpopulated j (by omega)
  have view := walk.seen_in_ring walked hi.le hx before
  have memory := walked.synced x hx before synced
  cases mode : s.cfg.cacheMode with
  | coherent =>
    exact (one.slot.direct (.inl (cfg ▸ mode)) x (walk.unstored hi (unpopulated i (by omega)))).trans memory
  | noncoherent =>
    have kept : ¬ (c = .rx ∧ Invalidated t.cfg (buf i) (len i).toNat x) := fun ⟨rx, inv⟩ =>
      not_invalidated_in_ring walk.sound.valid mode (walk.apart i hi rx mode) hx (cfg ▸ inv)
    exact (one.synced x (walk.unstored hi (unpopulated i (by omega))) kept (memory.trans view.symm)).trans view

/-- One block more. -/
theorem Walk.step : Walked c n d buf len s (i + 1) u := by
  have small := walk.small
  have cfg := walked.returned.around.cfg
  refine ⟨walked.returned.trans one.returned, one.slot.sound,
    fun j hj word source => walk.step_holds walked hi one hj source,
    fun x hx h synced => walk.step_synced walked hi one hx h synced, fun x outside => ?mem,
    fun direct x unpopulated => ?direct, fun x h => walk.step_seen walked hi one h,
    fun l outside => walk.step_lines walked hi one outside, ?ch, one.eng.trans walked.eng⟩
  case mem => exact (one.slot.mem x (outside i (by omega))).trans (walked.mem x fun j hj => outside j (by omega))
  case direct =>
    exact (one.slot.direct (cfg ▸ direct) x (walk.unstored hi (unpopulated i (by omega)))).trans
      (walked.direct direct x fun j hj => unpopulated j (by omega))
  case ch =>
    have next : (s.cfg.cap.get c - 1 + (i + 1)) % s.cfg.cap.get c = i := by
      rw [show s.cfg.cap.get c - 1 + (i + 1) = i + s.cfg.cap.get c by omega, Nat.add_mod_right,
        Nat.mod_eq_of_lt (by omega)]
    rw [one.ch, walked.record, walked.ch, Pair.set_set, next]

end

/-- Loads from a slot of the ring leave what the walk has done. -/
theorem Walk.loaded {i j : Nat} {t u : State} (walked : Walked c n d buf len s i t) (hj : j < s.cfg.cap.get c)
    {is : List Item} {v : Value} (loaded : Loaded (d j) (t.poised is v) u) : Walked c n d buf len s i u := by
  have view : u.hostWord = t.hostWord := funext fun a => hostWord_congr fun b _ => loaded.seen _
  refine ⟨(walked.returned.poised is v).trans loaded.only.returned, loaded.sound, ?_, ?_, ?_, ?_, fun x h => ?_,
    fun l outside => ?_, loaded.only.ch.trans walked.ch, (congrArg Parts.eng loaded.only.parts).trans walked.eng⟩
  · rw [view, loaded.mem]
    exact walked.holds
  · rw [loaded.mem]
    exact walked.synced
  · rw [loaded.mem]
    exact walked.mem
  · rw [loaded.mem]
    exact walked.direct
  · rw [loaded.seen]
    exact walked.seen x h
  · refine (loaded.lines l (.inl ?_)).trans (walked.lines l outside)
    exact mt ((walk.slot hj).inRing _) (by simp [outside])

end

end Sys2Proof.Machine
end

section
/-! The run of a block walk, and CONFIGURE of any block list (46_configure.md R365; 43_ring.md R301, R305). -/

namespace Sys2Proof.Machine

/-- The first block's CONTROL has its start-of-frame bit (30_encoding.md R161). -/
theorem controlWord_first_ne_zero (len : Word) (last : Bool) : controlWord len true last ≠ 0 := by
  obtain ⟨-, -, sof, -⟩ := descriptorWordsAndFlags.1 len true last
  intro zero
  rw [zero] at sof
  cases sof

theorem not_blockFits {p : Params} {c : Chan} {buf : Addr} {len : Word} (h : ¬ BlockFits p c buf len) :
    2 ^ 26 ≤ len.toNat ∨ (c = .rx ∧ p.cacheMode = .noncoherent ∧
      (buf.toNat % p.line ≠ 0 ∨ len.toNat % p.line ≠ 0)) := by
  unfold BlockFits at h
  by_contra fits
  push Not at fits
  obtain ⟨size, aligned⟩ := fits
  exact h ⟨size, aligned⟩

section
variable {s : State} {c : Chan} {k n : Nat} {d buf : Nat → Addr} {len : Nat → Word} (walk : Walk s c k d buf len)
include walk

section
variable {i : Nat} {t : State} (walked : Walked c n d buf len s i t)
include walked

theorem Walk.slotFree_ahead (hi : i ≤ k) {j : Nat} (later : i ≤ j) (hj : j < s.cfg.cap.get c) :
    SlotFree t (d j) ↔ SlotFree s (d j) := by
  have same := walk.load_ahead walked hi later hj
  exact iff_of_eq (congrArg₂ (fun a b => a = 0 ∧ b = 0) (same 0x18 (by decide)) (same 0x1C (by decide)))

theorem Walk.pop_next : ((t.ch.get c).pop + 1) % t.cfg.cap.get c = i % s.cfg.cap.get c := by
  have some_slot := (ring_bounds walk.sound.valid c).1
  rw [walked.record, walked.returned.around.cfg, Nat.mod_add_mod,
    show s.cfg.cap.get c - 1 + i + 1 = i + s.cfg.cap.get c by omega, Nat.add_mod_right]

theorem Walk.configured_after : (t.ch.get c).configured = true := by
  rw [walked.record]
  exact walk.configured

/-- POPULATE of the next block, which goes. -/
theorem Walk.goes (hi : i < k) {rest : List Item} (more : rest ≠ []) {w : Value}
    (inv : Inv (t.poised (.op (.populate (chanNum c) (buf i) (len i) (i == 0) (i + 1 == n)) :: rest) w)) :
    ∃ u, QuietRuns (t.poised (.op (.populate (chanNum c) (buf i) (len i) (i == 0) (i + 1 == n)) :: rest) w)
      (u.poised rest (.code .ok)) ∧ Walked c n d buf len s (i + 1) u := by
  have small := walk.small
  have cfg := walked.returned.around.cfg
  have configured : (t.ch.get c).configured = true := walk.configured_after walked
  have about : AboutTo (t.poised (.op (.populate (chanNum c) (buf i) (len i) (i == 0) (i + 1 == n)) :: rest) w)
      (.populate (chanNum c) (buf i) (len i) (i == 0) (i + 1 == n)) rest :=
    ⟨walked.sound.valid, State.code_poised .., .inr more⟩
  have number : i = ((t.ch.get c).pop + 1) % t.cfg.cap.get c := by
    rw [walk.pop_next walked, Nat.mod_eq_of_lt (by omega)]
  have free : SlotFree t (d i) := (walk.slotFree_ahead walked hi.le le_rfl (by omega)).2 (walk.free i hi)
  obtain ⟨u, run, one⟩ := populate_goes about (walked.returned.around.ctl.trans walk.ready) configured inv number
    (by rw [walk.place, ← cfg]; rfl) (fun j w hj => cfg ▸ walk.bus i (by omega) j w hj)
    (walked.returned.sb.trans walk.empty) free (cfg ▸ walk.fits i hi)
  have app0 : (t.ch.get c).app0 = (s.ch.get c).app0 := by rw [walked.record]
  exact ⟨u, run, walk.step walked hi (app0 ▸ one.of_poised)⟩

/-- POPULATE of the next block, which does not go. -/
theorem Walk.refused {rest : List Item} (more : rest ≠ []) {a : Addr} {size : Word} {first last : Bool} {w : Value}
    (inv : Inv (t.poised (.op (.populate (chanNum c) a size first last) :: rest) w)) {r : Code} (notOk : r ≠ .ok)
    (check : popCheck s.cfg ⟨c, a, size, first, last⟩ (t.loadWord (d (i % s.cfg.cap.get c) + 0x18))
      (t.loadWord (d (i % s.cfg.cap.get c) + 0x1C)) = r) :
    ∃ u, QuietRuns (t.poised (.op (.populate (chanNum c) a size first last) :: rest) w) (u.poised rest (.code r)) ∧
      Walked c n d buf len s i u := by
  have cfg := walked.returned.around.cfg
  have configured : (t.ch.get c).configured = true := walk.configured_after walked
  have inRing : i % s.cfg.cap.get c < s.cfg.cap.get c := Nat.mod_lt _ (ring_bounds walk.sound.valid c).1
  have about : AboutTo (t.poised (.op (.populate (chanNum c) a size first last) :: rest) w)
      (.populate (chanNum c) a size first last) rest :=
    ⟨walked.sound.valid, State.code_poised .., .inr more⟩
  obtain ⟨u, run, loaded⟩ := populate_refused (d := d (i % s.cfg.cap.get c)) about
    (walked.returned.around.ctl.trans walk.ready) configured inv (walk.pop_next walked).symm (by rw [walk.place, ← cfg]; rfl)
    (fun j w hj => cfg ▸ walk.bus _ inRing j w hj) (cfg ▸ check) notOk
  exact ⟨u, run.quiet, walk.loaded walked inRing loaded⟩

end

/-- Block `k` does not go, with slot `d`: POPULATE answers it with `res` (43_ring.md R301). -/
def BlockStops (s : State) (c : Chan) (k : Nat) (d buf : Addr) (size : Word) (res : Code) : Prop :=
  (res = .ebusy ∧ (k = s.cfg.cap.get c ∨ ¬ SlotFree s d)) ∨
    (res = .einval ∧ k < s.cfg.cap.get c ∧ SlotFree s d ∧ ¬ BlockFits s.cfg c buf size)

omit walk in
theorem BlockStops.notOk {d buf : Addr} {size : Word} {res : Code} (h : BlockStops s c k d buf size res) : res ≠ .ok := by
  rcases h with ⟨rfl, -⟩ | ⟨rfl, -⟩ <;> nofun

/-- The code of POPULATE's checks at the block where the walk ends before its list does. -/
theorem Walk.popCheck_next {t : State} (walked : Walked c n d buf len s k t) {res : Code}
    (why : BlockStops s c k (d k) (buf k) (len k) res) (first last : Bool) :
    popCheck s.cfg ⟨c, buf k, len k, first, last⟩ (t.loadWord (d (k % s.cfg.cap.get c) + 0x18))
      (t.loadWord (d (k % s.cfg.cap.get c) + 0x1C)) = res := by
  by_cases full : k = s.cfg.cap.get c
  · have some_slot := (ring_bounds walk.sound.valid c).1
    obtain ⟨rfl, -⟩ := why.resolve_right (by omega)
    obtain ⟨-, -, control⟩ := walked.holds 0 (by omega) _ (.inr rfl)
    have busy : t.loadWord (d (k % s.cfg.cap.get c) + 0x18) ≠ 0 := by
      rw [full, Nat.mod_self, loadWord_of_empty (walked.returned.sb.trans walk.empty), control]
      exact controlWord_first_ne_zero (len 0) (0 + 1 == n)
    exact popCheck_busy _ _ (.inl busy)
  · have small := walk.small
    have slotFree := walk.slotFree_ahead walked le_rfl le_rfl (by omega)
    rw [Nat.mod_eq_of_lt (by omega)]
    rcases why with ⟨rfl, taken⟩ | ⟨rfl, -, free, unfit⟩
    · exact popCheck_busy _ _ (not_and_or.1 (mt slotFree.1 (taken.resolve_left full)))
    · obtain ⟨control, status⟩ := slotFree.2 free
      rw [control, status]
      exact popCheck_unfit (not_blockFits unfit)

/-! The runs. -/

/-- The request's blocks are the ones that `buf` and `len` name. -/
def NamesBlocks (c : Chan) (blocks : List Block) (buf : Nat → Addr) (len : Nat → Word) : Prop :=
  ∀ j b, blocks[j]? = some b → memSide c b.src b.dst = buf j ∧ b.size = len j

omit walk in
/-- The code of a walk that comes to block `i`. -/
theorem blockCode_drop {blocks : List Block} (names : NamesBlocks c blocks buf len) (first : Bool) {i : Nat}
    (hi : i < blocks.length) : blockCode c first (blocks.drop i) =
      [.op (.populate (chanNum c) (buf i) (len i) first (i + 1 == blocks.length)),
        .cont (.cfgNext c (blocks.drop (i + 1)))] := by
  obtain ⟨side, size⟩ := names i blocks[i] (List.getElem?_eq_getElem hi)
  have last : (blocks.drop (i + 1)).isEmpty = (i + 1 == blocks.length) := by
    rw [Bool.eq_iff_iff, List.isEmpty_iff, List.drop_eq_nil_iff, beq_iff_eq]
    omega
  rw [List.drop_eq_getElem_cons hi, blockCode, side, size, last]

variable {blocks : List Block} (names : NamesBlocks c blocks buf len) {rest : List Item} {v : Value}
  (inv : Inv (s.poised (blockCode c true blocks ++ rest) (walkValue v blocks))) (later : s.irqs = [] ∨ rest ≠ [])
  (short : k ≤ blocks.length)
include names inv later short

/-- A quiet run over the blocks that go. -/
theorem Walk.runs {i : Nat} (hi : i ≤ k) : ∃ t w,
    QuietRuns (s.poised (blockCode c true blocks ++ rest) (walkValue v blocks))
      (t.poised (blockCode c (i == 0) (blocks.drop i) ++ rest) (walkValue w (blocks.drop i))) ∧
    Walked c blocks.length d buf len s i t := by
  induction i with
  | zero => exact ⟨s, v, (HostRuns.refl _).quiet, walk.start⟩
  | succ i ih =>
    obtain ⟨t, w, run, walked⟩ := ih (by omega)
    rw [blockCode_drop names (i == 0) (i := i) (by omega)] at run
    obtain ⟨u, goes, next⟩ := walk.goes walked (by omega) (List.cons_ne_nil _ _) (run.inv inv)
    have step : HostRuns (u.poised (.cont (.cfgNext c (blocks.drop (i + 1))) :: rest) (.code .ok))
        (u.poised (blockCode c false (blocks.drop (i + 1)) ++ rest) (walkValue (.code .ok) (blocks.drop (i + 1)))) := by
      refine .cont next.sound.valid ?_ (blockCode_later (next.returned.later later))
      rw [runPoint, cfgNext, State.ret_poised]
      exact cfgBlocks_poised ..
    exact ⟨u, .code .ok, run.trans (goes.trans step.quiet), next⟩

/-- A quiet run of a whole walk. -/
theorem Walk.ends {res : Code}
    (ends : (k = blocks.length ∧ res = .ok) ∨ (k < blocks.length ∧ BlockStops s c k (d k) (buf k) (len k) res)) :
    ∃ t, QuietRuns (s.poised (blockCode c true blocks ++ rest) (walkValue v blocks)) (t.poised rest (.code res)) ∧
      Walked c blocks.length d buf len s k t := by
  obtain ⟨t, w, run, walked⟩ := walk.runs names inv later short le_rfl
  rcases ends with ⟨whole, rfl⟩ | ⟨more, why⟩
  · rw [List.drop_eq_nil_of_le (by omega)] at run
    exact ⟨t, run, walked⟩
  · rw [blockCode_drop names (k == 0) more] at run
    obtain ⟨u, refused, walked'⟩ := walk.refused walked (List.cons_ne_nil _ _) (run.inv inv) why.notOk
      (walk.popCheck_next walked why _ _)
    have stops : HostRuns (u.poised (.cont (.cfgNext c (blocks.drop (k + 1))) :: rest) (.code res))
        (u.poised rest (.code res)) := by
      refine .cont walked'.sound.valid ?_ (walked'.returned.later later)
      rw [runPoint, cfgNext, State.ret_poised]
      exact if_neg why.notOk
    exact ⟨u, run.trans (refused.trans stops.quiet), walked'⟩

end

end Sys2Proof.Machine
end

section
/-! CONFIGURE of any block list, in every cache mode: its opening and its block walk together (46_configure.md R365). -/

namespace Sys2Proof.Machine

/-! The blocks of a request by their places. -/

/-- The size of block `j` of a list. -/
def blockSize (blocks : List Block) (j : Nat) : Word := (blocks[j]?.map Block.size).getD 0

theorem namesBlocks_blockSize {c : Chan} {blocks : List Block} {buf : Nat → Addr}
    (side : ∀ (j : Nat) (b : Block), blocks[j]? = some b → buf j = if c = .tx then b.src else b.dst) :
    NamesBlocks c blocks buf (blockSize blocks) := by
  intro j b hb
  rw [memSide_eq, side j b hb, blockSize, hb]
  exact ⟨rfl, rfl⟩

section
variable {c : Chan} {blocks : List Block} {buf : Nat → Addr} {len : Nat → Word} (names : NamesBlocks c blocks buf len)
  {k : Nat} (short : k ≤ blocks.length)
include names short

/-- What is said of each of the first `k` blocks is said of each of their places. -/
theorem NamesBlocks.forall_iff {P : Nat → Word → Prop} :
    (∀ (j : Nat) (b : Block), j < k → blocks[j]? = some b → P j b.size) ↔ ∀ j, j < k → P j (len j) := by
  constructor
  · intro h j hj
    have found : blocks[j]? = some blocks[j] := List.getElem?_eq_getElem (by omega)
    obtain ⟨-, size⟩ := names j _ found
    exact size ▸ h j _ hj found
  · intro h j b hj found
    obtain ⟨-, size⟩ := names j b found
    exact size ▸ h j hj

theorem NamesBlocks.exists_iff {P : Nat → Word → Prop} :
    (∃ (j : Nat) (b : Block), j < k ∧ blocks[j]? = some b ∧ P j b.size) ↔ ∃ j, j < k ∧ P j (len j) := by
  have none_ := names.forall_iff short (P := fun j n => ¬ P j n)
  rw [← not_iff_not]
  push Not
  exact none_

end

/-! What the opening leaves to the walk. -/

/-- A block goes, with slot `d` (43_ring.md R301); in NONCOHERENT mode no byte of an RX buffer lies in the ring. -/
def BlockGoes (s : State) (c : Chan) (d buf : Addr) (size : Word) : Prop :=
  SlotFree s d ∧ BlockFits s.cfg c buf size ∧ (c = .rx → s.cfg.cacheMode = .noncoherent →
    ∀ i, i < size.toNat → inRingOf s.cfg c ((buf.toNat + i) % 2 ^ 64) = false)

section
variable {s t : State} {c : Chan} {q : CfgReq} {r : Record} (opened : Opened c q r s t) (empty : s.sb = [])
include opened empty

/-- RELINK leaves a slot's CONTROL and STATUS as the host sees them. -/
theorem Opened.slotFree {j : Nat} (hj : j < s.cfg.cap.get c) :
    SlotFree t (descAddr s.cfg c j) ↔ SlotFree s (descAddr s.cfg c j) := by
  have valid : paramsValid s.cfg = true := opened.returned.around.cfg ▸ opened.sound.valid
  have word {o : Nat} (low : 8 ≤ o) (high : o + 4 ≤ 64) :
      t.loadWord (descAddr s.cfg c j + BitVec.ofNat 64 o) = s.loadWord (descAddr s.cfg c j + BitVec.ofNat 64 o) := by
    rw [loadWord_of_empty (opened.returned.sb.trans empty), loadWord_of_empty empty]
    refine hostWord_congr fun b hb => opened.seen _ ?_
    have slot := isSlot_descAddr valid hj
    have fits := slot.whole.fits
    rw [slot.toNat_add (by omega), Nat.mod_eq_of_lt (by omega), descAddr_toNat valid hj]
    rintro ⟨i, hi, inside⟩
    rw [descAddr_toNat valid hi] at inside
    unfold InSpan at inside
    omega
  exact iff_of_eq (congrArg₂ (fun a b => a = 0 ∧ b = 0) (word (o := 0x18) (by decide) (by decide))
    (word (o := 0x1C) (by decide) (by decide)))

theorem Opened.blockStops {k : Nat} (small : k ≤ s.cfg.cap.get c) {buf : Addr} {size : Word} {res : Code}
    (h : BlockStops s c k (descAddr s.cfg c k) buf size res) : BlockStops t c k (descAddr s.cfg c k) buf size res := by
  unfold BlockStops at *
  rw [opened.returned.around.cfg]
  by_cases full : k = s.cfg.cap.get c
  · exact h.imp (And.imp_right fun _ => .inl full) fun ⟨_, room, _⟩ => absurd full room.ne
  · rwa [opened.slotFree empty (by omega)]

/-- The walk begins with the cursors reset, over slots and blocks as they were. -/
theorem Opened.walk (ready : s.ctl = .ready) (cap : r.cap = s.cfg.cap.get c) {k : Nat} {d buf : Nat → Addr}
    {len : Nat → Word} (place : ∀ i, d i = descAddr s.cfg c i) (small : k ≤ s.cfg.cap.get c)
    (bus : ∀ i j w, i < s.cfg.cap.get c → j < 16 → busResp s.cfg (d i + BitVec.ofNat 64 (4 * j)) 4 w = .okay)
    (goes : ∀ j, j < k → BlockGoes s c (d j) (buf j) (len j)) : Walk t c k d buf len := by
  have cfg := opened.returned.around.cfg
  have record : t.ch.get c = { r.opened with cb := q.cb, ud := q.ud } := by rw [opened.ch, Pair.get_set_self]
  refine ⟨opened.sound, opened.returned.around.ctl.trans ready, by rw [record]; rfl, opened.returned.sb.trans empty,
    by rw [record, cfg, ← cap]; rfl, cfg ▸ small, cfg ▸ place, fun j hj => ?_, fun j hj => ?_,
    fun j hj i w hi => ?_, fun j hj => ?_⟩
  · rw [place]
    exact (opened.slotFree empty (by omega)).2 (place j ▸ (goes j hj).1)
  · exact cfg ▸ (goes j hj).2.1
  · rw [cfg] at hj ⊢
    exact bus j i w hj hi
  · rw [cfg]
    exact (goes j hj).2.2

end

section
variable {s t u : State} {c : Chan} {q : CfgReq} {r : Record} (opened : Opened c q r s t) {k n : Nat}
  {d buf : Nat → Addr} {len : Nat → Word} (walk : Walk t c k d buf len) (walked : Walked c n d buf len t k u)
include opened walk walked

/-- The record CONFIGURE leaves. -/
theorem Opened.record : u.ch = s.ch.set c { r with
    pop := if k = 0 then s.cfg.cap.get c - 1 else k - 1, cmp := 0, configured := true, cb := q.cb, ud := q.ud } := by
  have cfg := opened.returned.around.cfg
  have some_slot := (ring_bounds walk.sound.valid c).1
  have small := walk.small
  rw [cfg] at some_slot small
  have pop : (s.cfg.cap.get c - 1 + k) % s.cfg.cap.get c = if k = 0 then s.cfg.cap.get c - 1 else k - 1 := by
    split
    · rw [Nat.mod_eq_of_lt (by omega)]
      omega
    · rw [show s.cfg.cap.get c - 1 + k = k - 1 + s.cfg.cap.get c by omega, Nat.add_mod_right, Nat.mod_eq_of_lt (by omega)]
  rw [walked.ch, opened.ch, Pair.set_set, Pair.get_set_self, cfg, pop]
  rfl

/-- No byte outside the ring changes in memory. -/
theorem Opened.mem_outside {x : Nat} (outside : inRingOf s.cfg c x = false) : u.mem.read x = s.mem.read x := by
  have small := walk.small
  have cfg := opened.returned.around.cfg
  refine (walked.mem x fun j hj inside => ?_).trans (opened.mem x outside)
  have inRing := (walk.slot (by omega)).inRing x inside
  rw [cfg, outside] at inRing
  cases inRing

section
variable {x : Nat} (unlinked : ¬ LinkByte s.cfg c x) (unpopulated : ∀ j, j < k → ¬ PopulatedByte (d j) x)
include unlinked unpopulated

omit walk in
theorem Opened.mem_direct (direct : DirectRings s.cfg) : u.mem.read x = s.mem.read x := by
  have cfg := opened.returned.around.cfg
  exact (walked.direct (cfg ▸ direct) x unpopulated).trans (opened.direct direct x unlinked)

/-- The host sees memory where the buffers' lines were dropped, and what it saw elsewhere. -/
theorem Opened.view :
    (c = .rx → (∃ j, j < k ∧ Invalidated s.cfg (buf j) (len j).toNat x) → u.hostByte x = s.mem.read x) ∧
    (¬ (c = .rx ∧ ∃ j, j < k ∧ Invalidated s.cfg (buf j) (len j).toNat x) → u.hostByte x = s.hostByte x) := by
  have cfg := opened.returned.around.cfg
  obtain ⟨dropped, kept⟩ := walked.seen x unpopulated
  rw [cfg] at dropped kept
  refine ⟨fun rx found => (dropped rx found).trans ?_, fun notFound => (kept notFound).trans (opened.seen x unlinked)⟩
  obtain ⟨j, hj, inv⟩ := found
  cases mode : s.cfg.cacheMode with
  | coherent => exact opened.direct (.inl mode) x unlinked
  | noncoherent =>
    have apart := walk.apart j hj rx (cfg ▸ mode)
    rw [cfg] at apart
    refine opened.mem x (Bool.eq_false_iff.2 fun inRing => ?_)
    exact not_invalidated_in_ring (cfg ▸ walk.sound.valid) mode apart inRing inv

end

end

/-- Settles O60: the opening, then the walk over the blocks that go and its end. -/
theorem configurePopulatesTheBlocks : Obligations.ConfigurePopulatesTheBlocks := by
  intro s c q rest r d buf k res about ready inv fresh src dst dir linked empty idle halted place side bus small short
    goes ends
  have names := namesBlocks_blockSize side
  have busLinks (i : Nat) (hi : i < s.cfg.cap.get c) : busResp s.cfg (descAddr s.cfg c i) 4 true = .okay ∧
      busResp s.cfg (descAddr s.cfg c i + 4) 4 true = .okay := by
    have low := bus i 0 true hi (by decide)
    rw [place] at low
    exact ⟨(BitVec.add_zero (descAddr s.cfg c i)) ▸ low, place i ▸ bus i 1 true hi (by decide)⟩
  obtain ⟨t, v, opens, opened⟩ := configure_opens about ready inv fresh src dst dir linked empty idle halted busLinks
  obtain ⟨-, cap, -⟩ := recordLegal_iff.1 (recordLegal_linkedMode (inv.records c) linked)
  have cfg : t.cfg = s.cfg := opened.returned.around.cfg
  have walk : Walk t c k d buf (blockSize q.blocks) :=
    opened.walk empty ready cap place small bus
      ((names.forall_iff short (P := fun j => BlockGoes s c (d j) (buf j))).1 goes)
  have ends' : (k = q.blocks.length ∧ res = .ok) ∨
      (k < q.blocks.length ∧ BlockStops t c k (d k) (buf k) (blockSize q.blocks k) res) := by
    refine ends.imp_right fun ⟨b, found, why⟩ => ?_
    obtain ⟨more, -⟩ := List.getElem?_eq_some_iff.1 found
    obtain ⟨-, size⟩ := names k b found
    rw [place, size] at why
    exact ⟨more, place k ▸ opened.blockStops empty small why⟩
  obtain ⟨u, walks, walked⟩ := walk.ends names (opens.inv inv) (opened.returned.later about.later) short ends'
  obtain ⟨n, run⟩ := opens.trans walks
  obtain ⟨around, sb, cblog, -⟩ := (opened.returned.trans walked.returned).poised rest (.code res)
  obtain ⟨links, view⟩ := walk.links walked le_rfl (cfg ▸ opened.links) (cfg ▸ opened.synced)
  rw [cfg] at links view
  have emptied : u.sb = [] := sb.trans empty
  have loads : u.loadWord = u.hostWord := funext (loadWord_of_empty emptied)
  have ch := opened.record walk walked
  refine ⟨n, _, run, State.code_poised .., State.ret_poised .., emptied, ch,
    walked.eng.trans opened.eng, links, loads ▸ view, ?holds, fun x outside => opened.mem_outside walk walked outside,
    fun x unlinked unpopulated => ⟨opened.mem_direct walked unlinked unpopulated, ?view⟩,
    fun l outside => ?lines, cblog, around⟩
  case holds =>
    refine (names.forall_iff short (P := fun j size =>
      HoldsBlock u.mem.readWord (d j) (buf j) r.app0 (controlWord size (j == 0) (j + 1 == q.blocks.length)) ∧
      HoldsBlock u.loadWord (d j) (buf j) r.app0 (controlWord size (j == 0) (j + 1 == q.blocks.length)))).2 fun j hj => ?_
    have app0 : (t.ch.get c).app0 = r.app0 := by
      rw [opened.ch, Pair.get_set_self]
      rfl
    rw [← app0]
    exact ⟨walked.holds j hj _ (.inl rfl), walked.holds j hj _ (.inr loads)⟩
  case lines =>
    rw [names.exists_iff short (P := fun j size => LineMeets s.cfg l (buf j).toNat size.toNat)]
    have after := walked.lines l (cfg ▸ outside)
    rwa [cfg, opened.lines l outside] at after
  case view =>
    rw [names.exists_iff short (P := fun j size => Invalidated s.cfg (buf j) size.toNat x)]
    exact opened.view walk walked unlinked unpopulated

end Sys2Proof.Machine
end

section
/-! INIT: the reset, the bounded polls, and the two ends (47_controller.md R390; 45_interrupt.md R351; 10_state.md R80;
42_engine_sequencer.md R281). -/

namespace Sys2Proof.Machine

/-! What INIT does to the state. -/

/-- The state with both records wired as INIT wires them. -/
def State.initWired (s : State) : State := { s with ch := ⟨wired s.cfg .tx s.ch.tx, wired s.cfg .rx s.ch.rx⟩ }

/-- The state with E_RESET_DONE taken (R281). -/
def State.resetEnded (s : State) : State := { s with rstBusy := false }

/-- The state INIT leaves when it succeeds: both handlers installed, both lines enabled, the device READY. -/
def State.initialised (s : State) : State := { s with lines := ⟨⟨true, true⟩, ⟨true, true⟩⟩, ctl := .ready }

/-- The state with the device FAILED. -/
def State.failed (s : State) : State := { s with ctl := .failed }

theorem State.initWired_get (s : State) (c : Chan) : s.initWired.ch.get c = wired s.cfg c (s.ch.get c) := by
  cases c <;> rfl

/-- The wiring that INIT gives a record is the platform's, and it does not configure the channel. -/
theorem wired_fields (p : Params) (c : Chan) (r : Record) :
    (wired p c r).ring = p.ring.get c ∧ (wired p c r).cap = p.cap.get c ∧ (wired p c r).irq = p.irq.get c ∧
      (wired p c r).configured = r.configured := by
  cases c <;> exact ⟨rfl, rfl, rfl, rfl⟩

theorem exec_init {s : State} (fresh : s.ctl = .uninit) (two : s.cfg.channels = 2) :
    exec .init s = .next (s.initWired.push [.op (wrInstr .tx .dmacr resetBit), .cont (.initPoll 1)]) :=
  (if_neg (not_not.2 fresh)).trans (if_neg (not_not.2 two))

/-- The RESET bit of a DMACR read tells whether the reset is in progress, whatever the draw (10_state.md R55). -/
theorem dmacrRead_resetBit (cr : Dmacr) (busy : Bool) (d : Nat) : (dmacrRead cr busy d).getLsbD 2 = busy := by
  rw [getLsbD_dmacrRead_channel cr busy d (by decide) (dmacrReserved_flags _ (by decide))]
  simp

/-! The three ways on from the check of a poll. -/

section
variable {s : State} {is : List Item} {x : Word}

theorem initChk_ended (i : Nat) (ended : x.getLsbD 2 = false) :
    initChk i (s.poised is (.word x)) = ((s.install .tx).install .rx).poised
      (.op (.irqEnable s.cfg.irq.tx) :: .op (.irqEnable s.cfg.irq.rx) :: .cont .initReady :: is) (.word x) := by
  rw [initChk, State.ret_poised, Value.asWord, ended]
  exact State.push_poised ((s.install .tx).install .rx) is _ (.word x)

theorem initChk_again {i : Nat} (pending : x.getLsbD 2 = true) (more : i < s.cfg.resetRetries) :
    initChk i (s.poised is (.word x)) =
      s.poised (.op .sleep :: .cont (.initPoll (i + 1)) :: is) (.word x) := by
  rw [initChk, State.ret_poised, Value.asWord, pending]
  exact (if_pos more).trans (State.push_poised ..)

theorem initChk_gives_up {i : Nat} (pending : x.getLsbD 2 = true) (last : s.cfg.resetRetries ≤ i) :
    initChk i (s.poised is (.word x)) = s.failed.poised is (.code .eio) := by
  rw [initChk, State.ret_poised, Value.asWord, pending]
  exact (if_neg (Nat.not_lt.2 last)).trans (State.answer_poised s.failed is _ _)

end

/-! The steps. -/

section
variable {s : State} {is rest : List Item} {v : Value}

/-- INIT up to its first poll: the records are wired, and the reset bit is written to DMACR
(40_register_interface.md R184). -/
theorem HostStep.initResets (about : AboutTo s .init rest) (fresh : s.ctl = .uninit) (two : s.cfg.channels = 2)
    (idle : s.rstBusy = false) :
    ∃ t, HostStep s t ∧ HostStep t (s.initWired.softReset.poised (.cont (.initPoll 1) :: rest) .unit) := by
  have expanded := (exec_init (s := s.poised rest s.ret) fresh two).trans
    (congrArg _ (State.push_poised s.initWired rest _ s.ret))
  have called := HostStep.op (i := .init) about.valid nofun nofun expanded (.inr (by simp))
  rw [about.poised] at called
  have reset := (exec_dmacr_reset (s := s.initWired.poised (.cont (.initPoll 1) :: rest) s.ret) (v := resetBit) idle
    rfl rfl rfl .tx).trans (congrArg _ (State.answer_poised s.initWired.softReset _ s.ret .unit))
  exact ⟨_, called, .mmio (s := s.initWired) about.valid (wrInstr_mmio ..) reset (.inr (by simp))⟩

/-- A poll reads whether the reset is in progress. -/
theorem HostRuns.initPolled (valid : paramsValid s.cfg = true) (i : Nat) :
    ∃ x : Word, x.getLsbD 2 = s.rstBusy ∧ HostRuns (s.poised (.cont (.initPoll i) :: is) v)
      ((s.spend 1).poised (.cont (.initChk i) :: is) (.word x)) := by
  have toRead : HostStep (s.poised (.cont (.initPoll i) :: is) v)
      (s.poised (.op (rdInstr .tx .dmacr) :: .cont (.initChk i) :: is) v) :=
    .cont valid (State.push_poised s is _ v) (.inr (by simp))
  exact ⟨_, dmacrRead_resetBit .., toRead.runs.trans (HostStep.read valid .tx .dmacr (by simp)).runs⟩

theorem HostStep.irqEnabled (valid : paramsValid s.cfg = true) (c : Chan) (more : is ≠ []) :
    HostStep (s.poised (.op (.irqEnable (s.cfg.irq.get c)) :: is) v) ((s.setEn c true).poised is .unit) :=
  .op valid nofun nofun ((onLine_irq (s := s.poised is v) valid c _).trans
    (congrArg _ (State.answer_poised (s.setEn c true) is v .unit))) (.inr more)

theorem HostStep.sleep (valid : paramsValid s.cfg = true) (more : is ≠ []) :
    HostStep (s.poised (.op .sleep :: is) v) (s.poised is .unit) :=
  .op valid nofun nofun (congrArg _ (State.answer_poised s is v .unit)) (.inr more)

/-- INIT's end, past the installation of both handlers. -/
theorem HostRuns.initReady (valid : paramsValid s.cfg = true) (later : s.irqs = [] ∨ is ≠ []) :
    HostRuns (((s.install .tx).install .rx).poised
        (.op (.irqEnable s.cfg.irq.tx) :: .op (.irqEnable s.cfg.irq.rx) :: .cont .initReady :: is) v)
      (s.initialised.poised is (.code .ok)) := by
  let installed := (s.install .tx).install .rx
  have tx := HostStep.irqEnabled (s := installed) (v := v)
    (is := .op (.irqEnable s.cfg.irq.rx) :: .cont .initReady :: is) valid .tx (by simp)
  have rx := HostStep.irqEnabled (s := installed.setEn .tx true) (is := .cont .initReady :: is) (v := .unit) valid .rx
    (by simp)
  have ready : HostStep (((installed.setEn .tx true).setEn .rx true).poised (.cont .initReady :: is) .unit)
      (s.initialised.poised is (.code .ok)) :=
    .cont (s := (installed.setEn .tx true).setEn .rx true) (u := s.initialised) valid
      (State.answer_poised s.initialised is .unit _) later
  exact tx.runs.trans (rx.runs.trans ready.runs)

/-- A poll that finds the reset ended is the last, and INIT succeeds. -/
theorem HostRuns.initSucceeds (valid : paramsValid s.cfg = true) (ended : s.rstBusy = false) (i : Nat)
    (later : s.irqs = [] ∨ is ≠ []) :
    HostRuns (s.poised (.cont (.initPoll i) :: is) v) ((s.spend 1).initialised.poised is (.code .ok)) := by
  obtain ⟨x, read, polled⟩ := HostRuns.initPolled (is := is) (v := v) valid i
  have checked := HostStep.cont (s := s.spend 1) (k := .initChk i) valid
    (initChk_ended (is := is) i (read.trans ended)) (.inr (by simp))
  exact polled.trans (checked.runs.trans (.initReady (s := s.spend 1) valid later))

end

theorem State.spend_spend (s : State) (a b : Nat) : (s.spend a).spend b = s.spend (a + b) := by
  have taken : s.drawNo + (a - s.draws.length) + (b - (s.draws.drop a).length) =
      s.drawNo + (a + b - s.draws.length) := by
    rw [List.length_drop]
    omega
  rw [State.spend, State.spend_draws, State.spend_drawNo, List.drop_drop, taken]
  rfl

/-- While the reset does not end, the polls go on to the bound and INIT fails, by induction on the polls left. -/
theorem HostRuns.initFails {s : State} {i left : Nat} {is : List Item} {v : Value} (valid : paramsValid s.cfg = true)
    (busy : s.rstBusy = true) (later : s.irqs = [] ∨ is ≠ []) (bound : s.cfg.resetRetries - i = left) :
    ∃ k, HostRuns (s.poised (.cont (.initPoll i) :: is) v) ((s.spend k).failed.poised is (.code .eio)) := by
  induction left generalizing s i v with
  | zero =>
    obtain ⟨x, read, polled⟩ := HostRuns.initPolled (is := is) (v := v) valid i
    have checked := HostStep.cont (s := s.spend 1) (u := (s.spend 1).failed) (k := .initChk i) valid
      (initChk_gives_up (is := is) (read.trans busy) (Nat.le_of_sub_eq_zero bound)) later
    exact ⟨1, polled.trans checked.runs⟩
  | succ left ih =>
    obtain ⟨x, read, polled⟩ := HostRuns.initPolled (is := is) (v := v) valid i
    have checked := HostStep.cont (s := s.spend 1) (k := .initChk i) valid
      (initChk_again (is := is) (read.trans busy) (Nat.lt_of_sub_eq_succ bound)) (.inr (by simp))
    have slept := HostStep.sleep (s := s.spend 1) (is := .cont (.initPoll (i + 1)) :: is) (v := .word x) valid (by simp)
    obtain ⟨k, rest⟩ := ih (s := s.spend 1) (i := i + 1) (v := .unit) valid busy later (by
      rw [State.spend_cfg]
      omega)
    rw [State.spend_spend] at rest
    exact ⟨1 + k, polled.trans (checked.runs.trans (slept.runs.trans rest))⟩

/-- E_RESET_DONE, whatever the host is about to run. -/
theorem stepAs_resetDone {s : State} (valid : paramsValid s.cfg = true) (busy : s.rstBusy = true) :
    stepAs (.auto 0xC600) s = .next s.resetEnded :=
  (stepAs_eq valid _).trans ((takeTurn_resetDone s).trans (exec_eResetDone_taken busy))

/-- Settles O38: the first poll reads RESET = 0, since E_RESET_DONE came before it. -/
theorem initMakesTheDeviceReady : Obligations.InitMakesTheDeviceReady := by
  intro s rest about fresh two idle
  have valid := about.valid
  obtain ⟨t, called, reset⟩ := HostStep.initResets about fresh two idle
  have poll : hostRun 2 s = .next (s.initWired.softReset.poised (.cont (.initPoll 1) :: rest) .unit) :=
    (hostRun_succ called.2 1).trans (hostRun_succ reset.2 0)
  let u := s.initWired.softReset.resetEnded
  obtain ⟨n, run, -⟩ := HostRuns.initSucceeds (s := u) (is := rest) (v := .unit) valid rfl 1 about.later
  refine ⟨_, _, n, _, poll, rfl, stepAs_resetDone valid rfl, run, State.code_poised ..,
    State.ret_poised .., rfl, rfl, fun c => ?channel, rfl, rfl, rfl, rfl, rfl, rfl, rfl, rfl⟩
  case channel =>
    obtain ⟨snap, xres, h⟩ := s.initWired.softReset_get c
    have eng : ((u.spend 1).initialised.poised rest (.code .ok)).eng.get c = Eng.softReset snap xres := h
    have ch : ((u.spend 1).initialised.poised rest (.code .ok)).ch.get c = wired s.cfg c (s.ch.get c) :=
      s.initWired_get c
    rw [eng, ch]
    exact ⟨by cases c <;> rfl, rfl, rfl, rfl, rfl, rfl, rfl, rfl, rfl, rfl, wired_fields s.cfg c _⟩

/-- Settles O39: every poll reads RESET = 1, and the last one gives up. -/
theorem initFailsWhenTheResetHangs : Obligations.InitFailsWhenTheResetHangs := by
  intro s rest about fresh two idle
  obtain ⟨t, called, reset⟩ := HostStep.initResets about fresh two idle
  obtain ⟨k, fails⟩ := HostRuns.initFails (s := s.initWired.softReset) (i := 1) (is := rest) (v := .unit) about.valid
    rfl about.later rfl
  obtain ⟨n, run, -⟩ := called.runs.trans (reset.runs.trans fails)
  exact ⟨n, _, run, State.code_poised .., State.ret_poised .., rfl, rfl, rfl, rfl, rfl, rfl, rfl, rfl, rfl, rfl, rfl⟩

end Sys2Proof.Machine
end

section
/-! Interrupt entry (60_exceptions.md R425). -/

namespace Sys2Proof.Machine

section
variable {s : State} {c : Chan} (valid : paramsValid s.cfg = true) (wired : (s.ch.get c).irq = s.cfg.irq.get c)
include valid wired

theorem lineReady_wired : s.lineReady c = ((s.lines.get c).en && (s.lines.get c).inst) := by
  rw [State.lineReady, wired, lineOwner_irq valid]

/-- The six conditions of R425. -/
theorem canTakeIrq_iff : s.canTakeIrq c = true ↔
    irqOut (s.eng.get c) = true ∧ (s.lines.get c).en = true ∧ (s.lines.get c).inst = true ∧ s.gie = true ∧
      (∀ i ∈ s.irqs, i.line ≠ s.cfg.irq.get c) ∧ (s.cfg.nestedIrq = true ∨ s.irqs = []) := by
  simp only [State.canTakeIrq, lineReady_wired valid wired, wired, Bool.and_eq_true, Bool.or_eq_true, Bool.not_eq_true',
    List.any_eq_false, beq_iff_eq, List.isEmpty_iff, and_assoc, ne_eq]

end

theorem takeIrq_wired {s : State} {c : Chan} (wired : (s.ch.get c).irq = s.cfg.irq.get c) :
    s.takeIrq c = { s with
      irqs := ⟨c, s.cfg.irq.get c, ⟨[.op (.isr (chanNum c))], [], .unit⟩⟩ :: s.irqs } := by
  rw [State.takeIrq, wired]
  rfl

/-- Settles O49: IRQ_TAKE is `State.takeIrq` where its six conditions hold, and is not taken elsewhere. -/
theorem interruptEntry : Obligations.InterruptEntry := by
  intro s c valid wired
  have conditions := canTakeIrq_iff valid wired
  refine ⟨fun h => ?_, fun h => whenEnabled_passes (fun enabled => h (conditions.1 enabled)) s _⟩
  rw [← takeIrq_wired wired]
  exact whenEnabled_taken (conditions.2 h) s _

end Sys2Proof.Machine
end

section
/-! What a step of the host does to the contexts, and the return from an interrupt (10_state.md R61; 60_exceptions.md
R426). -/

namespace Sys2Proof.Machine

/-! The work of the running context. -/

/-- The contexts of the host: the thread, and the active interrupt contexts (R61). -/
def State.contexts (s : State) : Ctx × List IrqCtx := (s.thread, s.irqs)

section
variable {s : State} {i : IrqCtx} {is : List IrqCtx} (hs : s.irqs = i :: is)
include hs

theorem State.running_of_irqs : s.running = i.ctx := by
  rw [State.running, hs]

theorem State.code_of_irqs : s.code = i.ctx.code :=
  congrArg Ctx.code (State.running_of_irqs hs)

/-- While an interrupt context runs, the thread and the interrupted contexts stay. -/
theorem State.setRunning_of_irqs (x : Ctx) : s.setRunning x = { s with irqs := { i with ctx := x } :: is } := by
  rw [State.setRunning, hs]
  rfl

end

theorem running_of_contexts {s t : State} (h : t.contexts = s.contexts) : t.running = s.running := by
  obtain ⟨thread, irqs⟩ := Prod.mk.inj h
  rw [State.running, State.running, thread, irqs]

theorem setRunning_of_contexts {s t : State} (h : t.contexts = s.contexts) (x : Ctx) :
    (t.setRunning x).contexts = (s.setRunning x).contexts := by
  obtain ⟨thread, irqs⟩ := Prod.mk.inj h
  simp only [State.contexts, State.setRunning_thread, State.setRunning_irqs, thread, irqs]

/-- From `s` to `t` the running context alone has moved, and it has all its code still to run, whatever was put before
it. -/
def Works (s t : State) : Prop := ∃ x, t.contexts = (s.setRunning x).contexts ∧ s.code <:+ x.code

theorem works_of_contexts {s t : State} (h : t.contexts = s.contexts) : Works s t :=
  ⟨s.running, by rw [h, State.setRunning_running], List.suffix_refl _⟩

theorem Works.code {s t : State} (h : Works s t) : s.code <:+ t.code := by
  obtain ⟨x, contexts, kept⟩ := h
  have code : t.code = x.code :=
    congrArg Ctx.code ((running_of_contexts contexts).trans (State.running_setRunning s x))
  exact code ▸ kept

theorem Works.trans {s t u : State} (h : Works s t) (k : Works t u) : Works s u := by
  have kept := h.code
  obtain ⟨x, ht, -⟩ := h
  obtain ⟨y, hu, hy⟩ := k
  refine ⟨y, ?_, kept.trans hy⟩
  rw [hu, setRunning_of_contexts ht, State.setRunning_setRunning]

theorem Works.of_next {s t u : State} (h : Works s u) (he : (.next u : Res) = .next t) : Works s t := by
  cases he
  exact h

section
variable {s u : State} (h : u.contexts = s.contexts)
include h

/-- An operation that touches no context and then returns a value. -/
theorem works_answer (v : Value) : Works s (u.answer v) :=
  (works_of_contexts h).trans ⟨_, rfl, List.suffix_refl _⟩

/-- An operation that touches no context and then puts an expansion before the code. -/
theorem works_push (is : List Item) : Works s (u.push is) :=
  (works_of_contexts h).trans ⟨_, rfl, List.suffix_append _ _⟩

end

section
variable {s t u : State}

theorem works_of_answer {v : Value} (h : (.next (u.answer v) : Res) = .next t) (same : u.contexts = s.contexts) :
    Works s t :=
  (works_answer same v).of_next h

theorem works_of_push {is : List Item} (h : (.next (u.push is) : Res) = .next t) (same : u.contexts = s.contexts) :
    Works s t :=
  (works_push same is).of_next h

end

theorem works_assign (s : State) (d b : Option Nat) (v : Value) : Works s (s.assign d b v) :=
  ⟨_, rfl, List.suffix_refl _⟩

/-- The contexts below the running one stay, each with its channel and line (R61). -/
theorem Works.irqs {s t : State} (h : Works s t) {i : IrqCtx} {is : List IrqCtx} (hs : s.irqs = i :: is) :
    ∃ x, t.irqs = ⟨i.chan, i.line, x⟩ :: is := by
  obtain ⟨x, contexts, -⟩ := h
  have irqs : t.irqs = irqsWith s.irqs x := congrArg Prod.snd contexts
  exact ⟨x, irqs.trans (by rw [hs]; rfl)⟩

/-! The operations. -/

theorem mmioWrite_works {c : Chan} {r : Reg} {v : Word} {s t : State} (h : mmioWrite c r v s = .next t) :
    Works s t := by
  unfold mmioWrite at h
  split at h
  · cases h
  cases r with
  | dmacr => obtain ⟨-, -, ⟨-, rfl⟩ | ⟨-, -, rfl⟩ | ⟨-, -, rfl⟩⟩ := writeDmacr_next.1 h <;> exact works_answer rfl _
  | dmasr | taildescMsb => exact works_of_answer h rfl
  | curdescLsb =>
    obtain ⟨-, -, rfl⟩ := writeCurdescLsb_next.1 h
    exact works_answer rfl _
  | curdescMsb =>
    obtain ⟨-, rfl⟩ := writeCurdescMsb_next.1 h
    exact works_answer rfl _
  | taildescLsb =>
    obtain ⟨-, rfl⟩ := writeTaildescLsb_next.1 h
    exact works_answer rfl _

/-- The memory path touches no context. -/
theorem PathOnly.contexts {s t : State} (h : PathOnly s t) : t.contexts = s.contexts := by
  obtain ⟨_, _, _, _, rfl⟩ := h
  rfl

theorem execLd32_works {a : Addr} {s t : State} (h : execLd32 a s = .next t) : Works s t := by
  unfold execLd32 at h
  split at h
  · cases h
  · split at h
    · cases h
    · exact works_of_answer h (pathOnly_afterLoad s a).contexts

theorem execSt32_works {a : Addr} {v : Word} {s t : State} (h : execSt32 a v s = .next t) : Works s t := by
  unfold execSt32 at h
  split at h
  · cases h
  · exact works_of_answer h rfl

theorem execFence_works {s t : State} (h : execFence s = .next t) : Works s t := by
  unfold execFence at h
  split at h
  · exact works_of_answer h rfl
  · exact works_of_push h rfl

theorem execCsEnter_works {c : Nat} {s t : State} (h : execCsEnter c s = .next t) : Works s t := by
  unfold execCsEnter at h
  split at h
  · exact works_of_answer h rfl
  · exact works_of_answer h rfl
  · split at h
    · cases h
    · obtain ⟨o, -, rfl⟩ := onLine_next.1 h
      exact works_answer rfl _

theorem execCsExit_works {k : Key} {s t : State} (h : execCsExit k s = .next t) : Works s t := by
  cases k with
  | global | both => exact works_of_answer h rfl
  | line =>
    obtain ⟨o, -, rfl⟩ := onLine_next.1 h
    exact works_answer rfl _

theorem execCallback_works {c : Nat} {r : CbResult} {s t : State} (h : execCallback c r s = .next t) : Works s t := by
  unfold execCallback at h
  split at h
  · cases h
  · rename_i ch _
    have logged : Works s ((s.logCallback ch r).takeBody.answer .unit) := works_answer rfl _
    exact (logged.trans (works_push rfl _)).of_next h

theorem execConfigure_works {c : Nat} {req : CfgReq} {s t : State} (h : execConfigure c req s = .next t) :
    Works s t := by
  obtain ⟨-, rfl⟩ | ⟨ch, -, -, h⟩ := withChannel_next.1 h
  · exact works_answer rfl _
  · split at h
    · cases h
    · split at h
      · exact works_of_answer h rfl
      · split at h
        · exact works_of_answer h rfl
        · exact works_of_push h rfl

theorem execInit_works {s t : State} (h : execInit s = .next t) : Works s t := by
  unfold execInit at h
  split at h
  · cases h
  · split at h
    · exact works_of_answer h rfl
    · exact works_of_push h rfl

/-- Every operation but an autonomous step is work of the running context. -/
theorem exec_works {i : Instr} {s t : State} (host : i.opClass ≠ .auto) (h : exec i s = .next t) : Works s t := by
  cases i with
  | rdTxDmacr | rdTxDmasr | rdTxCurdescLsb | rdTxCurdescMsb | rdTxTaildescLsb | rdTxTaildescMsb
  | rdRxDmacr | rdRxDmasr | rdRxCurdescLsb | rdRxCurdescMsb | rdRxTaildescLsb | rdRxTaildescMsb =>
    exact works_of_answer h rfl
  | wrTxDmacr | wrTxDmasr | wrTxCurdescLsb | wrTxCurdescMsb | wrTxTaildescLsb | wrTxTaildescMsb
  | wrRxDmacr | wrRxDmasr | wrRxCurdescLsb | wrRxCurdescMsb | wrRxTaildescLsb | wrRxTaildescMsb =>
    simp only [exec] at h
    exact mmioWrite_works h
  | ld32 => exact execLd32_works h
  | st32 => exact execSt32_works h
  | fence => exact execFence_works h
  | dcFlush a n => exact works_of_answer h (pathOnly_flush s _ n).contexts
  | dcInval a n => exact works_of_answer h (pathOnly_invalidate s _ n).contexts
  | irqEnable | irqDisable | irqIsEnabled =>
    obtain ⟨o, -, rfl⟩ := onLine_next.1 h
    exact works_answer rfl _
  | csEnter => exact execCsEnter_works h
  | csExit => exact execCsExit_works h
  | sleep | chanFilter => exact works_of_answer h rfl
  | log msg => exact works_of_answer h rfl
  | callback => exact execCallback_works h
  | relink | isr =>
    obtain ⟨ch, -, -, h⟩ := withReady_next.1 h
    exact works_of_push h rfl
  | populate | reclaim =>
    obtain ⟨ch, -, -, h⟩ := withReady_next.1 h
    exact works_of_push (whenConfigured_next.1 h).2 rfl
  | start =>
    obtain ⟨-, rfl⟩ | ⟨ch, -, -, h⟩ := withChannel_next.1 h
    · exact works_answer rfl _
    · exact works_of_push (whenConfigured_next.1 h).2 rfl
  | stop | getStatus | reload =>
    obtain ⟨-, rfl⟩ | ⟨ch, -, -, h⟩ := withChannel_next.1 h
    · exact works_answer rfl _
    · exact works_of_push h rfl
  | configure => exact execConfigure_works h
  | init => exact execInit_works h
  | eHalt | eFetch | eXferTx | eXferRx | eWb | eDelay | eResetDone | envDrain | envEvict | envFill | irqTake =>
    exact absurd rfl host

/-! The program points. -/

theorem rcBuf_works (c : Chan) (key : Key) (count : Nat) (d : Addr) (sts : Word) (err : Bool) (s : State) :
    Works s (rcBuf c key count d sts err s) := by
  cases c <;> exact works_push rfl _

/-- The next block, of a state with a record rewritten or not. -/
theorem cfgBlocks_works {s u : State} (h : u.contexts = s.contexts) (c : Chan) (first : Bool) (bs : List Block) :
    Works s (cfgBlocks c first u bs) := by
  cases bs with
  | nil => exact works_answer h _
  | cons => exact works_push h _

/-- Every program point is work of the running context. -/
theorem runPoint_works (k : Cont) (s : State) : Works s (runPoint k s) := by
  cases k with
  | assign => exact works_assign ..
  | ret | statusSr => exact works_answer rfl _
  | initReady => exact works_answer (u := { s with ctl := .ready }) rfl _
  | popSet => exact works_of_contexts rfl
  | popSts p key ni ctl =>
    simp only [runPoint, popSts]
    split <;> exact works_push rfl _
  | rcSts c key count d =>
    simp only [runPoint, rcSts]
    split
    · exact works_push rfl _
    · split
      · exact works_push rfl _
      · exact rcBuf_works ..
  | rcCsum => exact rcBuf_works ..
  | cfgLinked c req =>
    simp only [runPoint, cfgLinked]
    split
    · exact works_answer rfl _
    · exact cfgBlocks_works (u := s.setRec c _) rfl ..
  | cfgNext c bs =>
    simp only [runPoint, cfgNext]
    split
    · exact cfgBlocks_works rfl ..
    · exact works_of_contexts rfl
  | initChk i =>
    simp only [runPoint, initChk]
    split
    · exact works_push (u := (s.install .tx).install .rx) rfl _
    · split
      · exact works_push rfl _
      · exact works_answer (u := { s with ctl := .failed }) rfl _
  | rcRx c | rcNext c | cfgKey c | cfgDone c => exact works_push (u := s.setRec c _) rfl _
  | popSlot | popCtl | rcKey | rcBufHi | rcBufLo | startKey | startSr | startTail | stopKey | stopCr | isrWas | isrSr
  | initPoll => exact works_push rfl _

/-! The step. -/

theorem runOp_works {i : Instr} {s t : State} (h : runOp i s = .next t) : Works s t := by
  unfold runOp at h
  split at h
  · cases h
  · rename_i host
    exact exec_works host h

theorem runItem_works {it : Item} {s t : State} (h : runItem it s = .next t) : Works s t := by
  cases it with
  | line l =>
    simp only [runItem, runLine] at h
    split at h
    · rename_i i spelled
      exact (works_push rfl (lineTail l)).trans (exec_works (lineInstr_not_auto spelled) h)
    · cases h
    · cases h
  | op => exact runOp_works h
  | cont k => exact (runPoint_works k s).of_next h
  | app0Store => exact runOp_works h

/-- A step that goes on is one of a machine whose parameters keep their constraints (00_scope.md R10). -/
theorem valid_of_stepAs {a : Turn} {s t : State} (h : stepAs a s = .next t) : paramsValid s.cfg = true := by
  by_contra broken
  rw [stepAs, step, checkedTurn, if_neg (by simpa using broken)] at h
  cases h

/-- Popping the running interrupt context leaves those below it as they are. -/
theorem State.settle_of_irqs {s : State} {i : IrqCtx} {is : List IrqCtx} (hs : s.irqs = i :: is)
    (ended : i.ctx.code = []) : s.settle = { s with irqs := is } := by
  rw [State.settle, hs, settleIrqs, if_pos (by simp [ended])]

/-- Settles O50: a context's last step leaves it no code, and it is popped; with code left after the item, the item's
work leaves it some. -/
theorem interruptReturn : Obligations.InterruptReturn := by
  refine ⟨fun s i is v valid hs hc => ?pops, fun s t i is it it2 rest hs hc h => ?stays⟩
  case pops =>
    have code : s.code = [.cont (.ret v)] := (State.code_of_irqs hs).trans hc
    have returned : runPoint (.ret v) (s.setCode []) =
        { s with irqs := { i with ctx := { i.ctx with code := [], ret := v } } :: is } := by
      rw [runPoint, State.answer, State.setCode, State.running_setRunning, State.setRunning_setRunning,
        State.running_of_irqs hs, State.setRunning_of_irqs hs]
    rw [stepAs_cont valid code, returned, State.settle_of_irqs rfl rfl]
  case stays =>
    have valid := valid_of_stepAs h
    have code : s.code = it :: it2 :: rest := (State.code_of_irqs hs).trans hc
    rw [stepAs_host valid code, mapNext_next] at h
    obtain ⟨u, ran, rfl⟩ := h
    have works := runItem_works ran
    have left : u.code ≠ [] := by
      have kept := works.code
      rw [State.code_setCode] at kept
      exact fun none_ => List.cons_ne_nil _ _ (List.suffix_nil.1 (none_ ▸ kept))
    rw [State.settle_of_code left]
    have front : (s.setCode (it2 :: rest)).irqs = { i with ctx := { s.running with code := it2 :: rest } } :: is :=
      congrArg State.irqs (State.setRunning_of_irqs hs _)
    obtain ⟨x, irqs⟩ := works.irqs front
    exact ⟨x, irqs⟩

end Sys2Proof.Machine
end

section
/-! The machine at boot (70_reset_and_hazards.md R450, R451; 10_state.md R60 to R65, R72, R80). -/

namespace Sys2Proof.Machine

section
variable (p : Params) (c : Chan)

@[simp] theorem State.boot_eng : (State.boot p).eng.get c = Eng.boot := by cases c <;> rfl

@[simp] theorem State.boot_lines : (State.boot p).lines.get c = ⟨false, false⟩ := by cases c <;> rfl

@[simp] theorem State.boot_ch : (State.boot p).ch.get c = Record.boot p c := by cases c <;> rfl

/-- A record at boot: wired as the platform is, the cursors at 0, nothing configured (R63). -/
theorem Record.boot_fields : Record.boot p c =
    { Record.boot p c with
      ring := p.ring.get c, cap := p.cap.get c, irq := p.irq.get c, pop := 0, cmp := 0, cb := none, lastRx := 0
      csumChk := false, app0 := 0, configured := false } := by
  cases c <;> rfl

end

/-- Settles O6: the channels' engines and records by their lemmas, the rest as `State.boot` writes it. -/
theorem bootState : Obligations.BootState := by
  refine ⟨rfl, fun p => ⟨rfl, rfl, fun c => ?engine, rfl, State.boot_lines p, rfl, rfl, rfl, rfl, rfl, rfl, rfl, rfl,
    fun c => ?record, fun c x _ => rfl⟩⟩
  case engine =>
    rw [State.boot_eng]
    exact ⟨rfl, rfl, rfl, rfl, rfl, rfl, rfl, rfl⟩
  case record =>
    rw [State.boot_ch, Record.boot_fields]
    exact ⟨rfl, rfl, rfl, rfl, rfl, rfl, rfl⟩

/-- At boot the cursors are in the ring, which is not empty (R10, R63). -/
theorem recordLegal_boot {p : Params} (valid : paramsValid p = true) (c : Chan) :
    recordLegal p c (Record.boot p c) = true := by
  obtain ⟨nonempty, -, -⟩ := ring_bounds valid c
  rw [Record.boot_fields]
  exact recordLegal_iff.2 ⟨rfl, rfl, rfl, nonempty, nonempty⟩

theorem engLegal_boot : EngLegal Eng.boot := ⟨rfl, rfl, rfl, by decide, by decide⟩

theorem inv_boot {p : Params} (valid : paramsValid p = true) : Inv (State.boot p) := by
  refine during_false_iff.1
    { memory := State.boot_mem_wf p
      engines := fun c => ?_
      resetting := nofun
      records := fun c => ?_
      thread := rfl
      irqs := ⟨rfl, nofun, nofun, nofun⟩
      stores := nofun
      cache := by simp [cacheLegal, State.boot, basesRise] }
  · rw [State.boot_eng]
    exact engLegal_boot
  · rw [State.boot_ch]
    exact recordLegal_boot valid c

/-- The parameters of the test vectors are ones the platform may have (R10, log entry 5). -/
theorem paramsValid_vectors : paramsValid Params.vectors = true := by decide

/-- Settles O52: `State.reset` is the boot state of one choice of valid parameters. -/
theorem bootSatisfiesTheInvariant : Obligations.BootSatisfiesTheInvariant :=
  ⟨inv_boot paramsValid_vectors, fun _ valid => inv_boot valid⟩

end Sys2Proof.Machine
end
